-- ==== Sys2Proof/Word.lean ====
section
/-! DEFINITION. The word types of the block: every value in the spec is unsigned (R9). -/

namespace Sys2Proof

/-- A 32-bit register value or pixel beat (R8, R54, R56). -/
abbrev Word := BitVec 32

/-- One 8-bit channel sample (R6, R12). -/
abbrev Byte := BitVec 8

/-- A 6-bit register word address, the byte offset shifted right by 2 (R8, R71). -/
abbrev RegAddr := BitVec 6

/-- A REG transaction word, 39 bits (R71). -/
abbrev RegBits := BitVec 39

end Sys2Proof
end

