-- ==== Sys2Proof/Syntax.lean ====
section
/-! DEFINITION. The host transactions, which are the block's instructions (R70), and the words that carry them. -/

namespace Sys2Proof

/-- One constructor per mnemonic of spec/opcode_table.json. The several rows of RD_RSVD, WR_RO and WR_RSVD are blocks
of word addresses of one mnemonic (R75), so these carry the address. -/
inductive Instr where
  /-- RD_CTRL, R100. -/
  | rdCtrl
  /-- RD_STATUS, R102. -/
  | rdStatus
  /-- RD_WIDTH, R117. -/
  | rdWidth
  /-- RD_HEIGHT, R119. -/
  | rdHeight
  /-- RD_LENGTH, R121. -/
  | rdLength
  /-- RD_IN_COUNT, R123. -/
  | rdInCount
  /-- RD_OUT_COUNT, R124. -/
  | rdOutCount
  /-- RD_PARAM, R125. -/
  | rdParam
  /-- RD_SHIFTK, R126. -/
  | rdShiftk
  /-- RD_RSVD, R128: a read of word address `a`, 9 ≤ a. -/
  | rdRsvd (a : RegAddr)
  /-- WR_CTRL, R101: a write of CTRL with `d[0] = 0`. -/
  | wrCtrl (d : Word)
  /-- START, R104: a write of CTRL with `d[0] = 1`. -/
  | start (d : Word)
  /-- WR_STATUS, R115. -/
  | wrStatus (d : Word)
  /-- WR_WIDTH, R118. -/
  | wrWidth (d : Word)
  /-- WR_HEIGHT, R120. -/
  | wrHeight (d : Word)
  /-- WR_LENGTH, R122. -/
  | wrLength (d : Word)
  /-- WR_RO, R127: a write to word address `a`, 5 ≤ a ≤ 8. -/
  | wrRo (a : RegAddr) (d : Word)
  /-- WR_RSVD, R129: a write to word address `a`, 9 ≤ a. -/
  | wrRsvd (a : RegAddr) (d : Word)
  /-- PIXEL_IN, R183: the input beat `w`. -/
  | pixelIn (w : Word)
  /-- PIXEL_OUT, R188: it has no operand. -/
  | pixelOut
deriving DecidableEq, Repr

/-- The port that carries a transaction; its format and length follow from the port (R70, R77). -/
inductive Port where
  | reg
  | pin
  | pout
deriving DecidableEq, Repr

/-- A transaction as the ports carry it (R70, R71, R72). -/
inductive Txn where
  /-- A REG transaction word. -/
  | reg (w : RegBits)
  /-- An input pixel beat. -/
  | pin (w : Word)
  /-- An output pixel beat, the word the block drives on `out_data`. -/
  | pout (w : Word)
deriving DecidableEq, Repr

end Sys2Proof
end

