-- ==== Sys2Proof/WellFormed.lean ====
section
/-! DEFINITION. Which terms of `Instr` stand for a transaction of the opcode map (R75). -/

namespace Sys2Proof

/-- The operand ranges of R75: the bit that tells WR_CTRL from START, and the address blocks. -/
def Instr.wellFormed : Instr → Bool
  | .rdCtrl | .rdStatus | .rdWidth | .rdHeight | .rdLength => true
  | .rdInCount | .rdOutCount | .rdParam | .rdShiftk => true
  | .rdRsvd a => decide (9 ≤ a.toNat)
  | .wrCtrl d => !d.getLsbD 0
  | .start d => d.getLsbD 0
  | .wrStatus _ | .wrWidth _ | .wrHeight _ | .wrLength _ => true
  | .wrRo a _ => decide (5 ≤ a.toNat ∧ a.toNat ≤ 8)
  | .wrRsvd a _ => decide (9 ≤ a.toNat)
  | .pixelIn _ | .pixelOut => true

end Sys2Proof
end

