-- ==== Sys2Proof/Decode.lean ====
section
/-! DEFINITION. Decoding, total on every transaction word (R75, R76), and the encoder written from the same formats. -/

namespace Sys2Proof

/-- Why a number is no transaction word of a port (R77: the port fixes the length). -/
inductive DecodeError where
  /-- The number of bits is not the port's (39, or 40 when counted in whole bytes, for REG; 32 for a stream). -/
  | wrongLength
  /-- The number does not fit the port's width. -/
  | tooWide
deriving DecidableEq, Repr

/-- Field WE of a REG word (R71). -/
def regWe (w : RegBits) : Bool := w.getLsbD 38

/-- Field A of a REG word (R71). -/
def regAddr (w : RegBits) : RegAddr := w.extractLsb' 32 6

/-- Field D of a REG word (R71). -/
def regData (w : RegBits) : Word := w.extractLsb' 0 32

/-- The column WE = 0 of R75. -/
def decodeRead (a : RegAddr) : Instr :=
  match a.toNat with
  | 0 => .rdCtrl
  | 1 => .rdStatus
  | 2 => .rdWidth
  | 3 => .rdHeight
  | 4 => .rdLength
  | 5 => .rdInCount
  | 6 => .rdOutCount
  | 7 => .rdParam
  | 8 => .rdShiftk
  | _ => .rdRsvd a

/-- The column WE = 1 of R75. -/
def decodeWrite (a : RegAddr) (d : Word) : Instr :=
  match a.toNat with
  | 0 => if d.getLsbD 0 then .start d else .wrCtrl d
  | 1 => .wrStatus d
  | 2 => .wrWidth d
  | 3 => .wrHeight d
  | 4 => .wrLength d
  | 5 => .wrRo a d
  | 6 => .wrRo a d
  | 7 => .wrRo a d
  | 8 => .wrRo a d
  | _ => .wrRsvd a d

/-- Every 39-bit value decodes to exactly one mnemonic (R75); D is ignored for a read (R71). -/
def decodeReg (w : RegBits) : Instr :=
  if regWe w then decodeWrite (regAddr w) (regData w) else decodeRead (regAddr w)

/-- Decoding of a transaction on its port (R70, R75). PIXEL_OUT has no operand (R188): the word of a POUT beat is its
result, so it is not kept. -/
def decode : Txn → Instr
  | .reg w => decodeReg w
  | .pin w => .pixelIn w
  | .pout _ => .pixelOut

/-- A REG word put together from its fields: `WE*2^38 + A*2^32 + D` (R71). -/
def regWord (we : Bool) (a : RegAddr) (d : Word) : RegBits := BitVec.ofBool we ++ a ++ d

/-- The transaction that carries an instruction. A read's ignored D and PIXEL_OUT's word are driven as 0 (log
entry 16). -/
def encode : Instr → Txn
  | .rdCtrl => .reg (regWord false 0 0)
  | .rdStatus => .reg (regWord false 1 0)
  | .rdWidth => .reg (regWord false 2 0)
  | .rdHeight => .reg (regWord false 3 0)
  | .rdLength => .reg (regWord false 4 0)
  | .rdInCount => .reg (regWord false 5 0)
  | .rdOutCount => .reg (regWord false 6 0)
  | .rdParam => .reg (regWord false 7 0)
  | .rdShiftk => .reg (regWord false 8 0)
  | .rdRsvd a => .reg (regWord false a 0)
  | .wrCtrl d => .reg (regWord true 0 d)
  | .start d => .reg (regWord true 0 d)
  | .wrStatus d => .reg (regWord true 1 d)
  | .wrWidth d => .reg (regWord true 2 d)
  | .wrHeight d => .reg (regWord true 3 d)
  | .wrLength d => .reg (regWord true 4 d)
  | .wrRo a d => .reg (regWord true a d)
  | .wrRsvd a d => .reg (regWord true a d)
  | .pixelIn w => .pin w
  | .pixelOut => .pout 0

/-- The transaction on `port` whose bits are the number `w`, given as `nbits` bits: a REG word is 39 bits, 40 when
counted in whole bytes with the top bit 0. -/
def txnOfBits (port : Port) (nbits w : Nat) : Except DecodeError Txn :=
  match port with
  | .reg =>
    if nbits = 39 ∨ nbits = 40 then
      if w < 2 ^ 39 then .ok (.reg (BitVec.ofNat 39 w)) else .error .tooWide
    else .error .wrongLength
  | .pin =>
    if nbits = 32 then
      if w < 2 ^ 32 then .ok (.pin (BitVec.ofNat 32 w)) else .error .tooWide
    else .error .wrongLength
  | .pout =>
    if nbits = 32 then
      if w < 2 ^ 32 then .ok (.pout (BitVec.ofNat 32 w)) else .error .tooWide
    else .error .wrongLength

/-- Decoding of a number on a port, rejecting by name what is no word of that port. -/
def decodeBits (port : Port) (nbits w : Nat) : Except DecodeError Instr :=
  match txnOfBits port nbits w with
  | .ok t => .ok (decode t)
  | .error e => .error e

/-- The port a table word of `nbits` bits is read on. The rows of PIXEL_IN and PIXEL_OUT have the same length and an
empty mask, and only the port tells them apart (R75, R77): a 32-bit word given without a port is read as the one the
host drives, PIN (log entry 9). -/
def tablePort (nbits : Nat) : Port := if nbits = 32 then .pin else .reg

/-- The transaction of a table word. -/
def tableTxn (nbits w : Nat) : Except DecodeError Txn := txnOfBits (tablePort nbits) nbits w

/-- The instruction the decoder reads from a table word. -/
def decodeTableWord (nbits w : Nat) : Option Instr :=
  match decodeBits (tablePort nbits) nbits w with
  | .ok i => some i
  | .error _ => none

end Sys2Proof
end

