-- ==== Sys2Proof/Config.lean ====
section
/-! DEFINITION. What an implementation fixes (R7) and the free values (93 U14, U16). -/

namespace Sys2Proof.Config

/-- The implementation parameters of R7, which a model takes as an argument: `State` carries them, no step changes
them, so every statement about all states is a statement for every MAX_WIDTH, SLACK and REG_BASE. -/
structure Params where
  /-- MAX_WIDTH, the widest frame the line buffer holds; 1 ≤ MAX_WIDTH ≤ 65535. -/
  maxWidth : BitVec 16
  /-- SLACK, the extra input lookahead. -/
  slack : Nat
  /-- REG_BASE, the platform byte address of the register window. -/
  regBase : Nat
deriving DecidableEq, Repr

/-- The range R7 gives MAX_WIDTH; its upper end is the width of the field. -/
abbrev Params.wf (p : Params) : Prop := 1 ≤ p.maxWidth.toNat

/-- FREE VALUE: the result Q of a register read in an edge where `rst` = 1 (R116, 93 U16). -/
opaque freeReadData : Nat → BitVec 32

/-- FREE VALUE: `out_data` while `out_valid` = 0 (R37, R240, 93 U14). -/
opaque freeOutData : Nat → BitVec 32

end Sys2Proof.Config
end

