-- ==== Sys2Proof/Machine/State.lean ====
section
/-! DEFINITION. The machine's state as plain data (R22), its stops, and the state right after reset (R240). -/

namespace Sys2Proof.Machine

/-- A partial map from pixel index to 32-bit word (R35), as the pairs that are written. The block's smallest
addressable unit is the pixel word: it has no byte-addressed memory (R50). An unlisted index is unwritten (R36). -/
abbrev Memory := List (Nat × Word)

/-- The one form of a map: indices strictly rising, so that equal maps are equal data. -/
abbrev Memory.wf (m : Memory) : Prop := m.Pairwise fun a b => a.1 < b.1

/-- What the agents outside the register state do at one rising edge of `clk` (R73, R116): the host's pins, the reset
pin, and the two choices the spec leaves to the engine (R182, R187). -/
structure Cycle where
  /-- `rst` (R240). -/
  rst : Bool
  /-- The REG transaction presented, if `reg_valid` = 1: the word `reg_we`, `reg_addr`, `reg_wdata` (R71, R73). -/
  reg : Option RegBits
  /-- `in_data`, if `in_valid` = 1. -/
  inBeat : Option Word
  /-- `out_ready`. -/
  outReady : Bool
  /-- The engine is willing to accept an input beat: `in_ready` is this and `InAccept` (R182). -/
  engineReady : Bool
  /-- The engine loads OBUF at this edge, if it may (R187). -/
  engineLoad : Bool
deriving DecidableEq, Repr

/-- An edge at which nobody does anything. -/
def Cycle.idle : Cycle :=
  { rst := false, reg := none, inBeat := none, outReady := false, engineReady := false, engineLoad := false }

/-- An edge at which the host does nothing and the engine does whatever it may. -/
def Cycle.engineOnly : Cycle := { Cycle.idle with engineReady := true, engineLoad := true }

/-- The state of the block (R22), its parameters (R7), and the model's own record of the outside world. -/
structure State where
  /-- MAX_WIDTH, SLACK, REG_BASE (R7). -/
  params : Config.Params
  /-- CTRL.DONE_IE (R23). -/
  doneIe : Bool
  /-- CTRL.ERR_IE (R23). -/
  errIe : Bool
  /-- STATUS.BUSY (R24). -/
  busy : Bool
  /-- STATUS.DONE (R24). -/
  done : Bool
  /-- STATUS.ERR (R24). -/
  err : Bool
  /-- STATUS.ERRCODE (R24, R211). -/
  errcode : BitVec 4
  /-- WIDTH.W (R25). -/
  width : BitVec 16
  /-- HEIGHT.H (R26). -/
  height : BitVec 16
  /-- LENGTH.L (R27). -/
  length : BitVec 32
  /-- IN_COUNT (R28). -/
  inCount : BitVec 32
  /-- OUT_COUNT (R29). -/
  outCount : BitVec 32
  /-- HIST, the history (line) buffer of post-shift words (R35). -/
  hist : Memory
  /-- OBUF.valid (R37). -/
  obufValid : Bool
  /-- OBUF.word (R37). -/
  obufWord : Word
  /-- `In[]`, the accepted input words of the job (R183). -/
  inPix : Memory
  /-- The model's own: what happens at the coming edges, oldest first. -/
  sched : List Cycle
  /-- The model's own: the result Q of the latest edge's register read. -/
  regQ : Option Word
  /-- The model's own: the output beats the host has accepted, newest first. -/
  taken : List Word
  /-- The model's own: the index of the next free value. -/
  freeIx : Nat
deriving DecidableEq, Repr

/-- The stops that the spec asks for. -/
inductive Fault where
  /-- Raised by the engine forming an output word that reads HIST entry `q` unwritten by this job (R36). Safe: R36 asks
  for it, and no run from reset reaches it. -/
  | histUnwritten (q : Nat)
  /-- Raised by the engine forming an interior output word whose input word `In[p]` is unwritten (R36, R190). Safe: no
  run from reset reaches it. -/
  | inputUnwritten (p : Nat)
deriving DecidableEq, Repr

/-- Instructions without a meaning. -/
inductive Refusal where
  /-- Raised by a dispatch arm whose instruction has no meaning yet; no arm does. Safe. -/
  | notModelled (mnemonic : String)
deriving DecidableEq, Repr

/-- The machine right after reset (R22, R240), with no transaction scheduled. The parameters are the model's choice (log
entry 2), OBUF.word is named by log entry 4, and the last four fields are the model's own. -/
def State.reset : State where
  params := { maxWidth := 2048, slack := 0, regBase := 0 }
  doneIe := false
  errIe := false
  busy := false
  done := false
  err := false
  errcode := 0
  width := 0
  height := 0
  length := 0
  inCount := 0
  outCount := 0
  hist := []
  obufValid := false
  obufWord := 0
  inPix := []
  sched := []
  regQ := none
  taken := []
  freeIx := 0

end Sys2Proof.Machine
end

