-- ==== Sys2Proof/Machine/Flags.lean ====
section
/-! DEFINITION. The flags (R33), the values CTRL and STATUS read as (R100, R102), write-1-to-clear (R115), and the
interrupt output (R220). The arithmetic sets no flag (R132, R159). -/

namespace Sys2Proof.Machine

/-- What a read of CTRL returns: `{ERR_IE, DONE_IE, 0}` zero-extended; START reads 0 (R100). -/
def ctrlValue (s : State) : Word :=
  (BitVec.ofBool s.errIe ++ BitVec.ofBool s.doneIe ++ 0#1).setWidth 32

/-- What a read of STATUS returns: `{ERRCODE, 0, ERR, DONE, BUSY}` zero-extended (R102). -/
def statusValue (s : State) : Word :=
  (s.errcode ++ 0#1 ++ BitVec.ofBool s.err ++ BitVec.ofBool s.done ++ BitVec.ofBool s.busy).setWidth 32

/-- `irq`, a function of the state at every instant (R34, R220). -/
def irq (s : State) : Bool := (s.done && s.doneIe) || (s.err && s.errIe)

/-- Every CTRL write, START or not, writes both interrupt enables (R23, R101, R104). -/
def State.writeIe (s : State) (d : Word) : State :=
  { s with doneIe := d.getLsbD 1, errIe := d.getLsbD 2 }

/-- The clear of DONE (R115). -/
def State.clearDone (s : State) : State := { s with done := false }

/-- The clear of ERR with its code: the return from an error (R115, R217). Nothing is restored, because nothing was
saved (R216). -/
def State.clearErr (s : State) : State := { s with err := false, errcode := 0 }

/-- Write-1-to-clear of STATUS; BUSY, ERRCODE and the reserved bits are not written (R115). -/
def State.clearStatus (s : State) (d : Word) : State :=
  let s1 := if d.getLsbD 1 then s.clearDone else s
  if d.getLsbD 2 then s1.clearErr else s1

end Sys2Proof.Machine
end

