-- ==== Sys2Proof/Machine/Constants.lean ====
section
/-! DEFINITION. The fixed constants of R6, each named once. -/

namespace Sys2Proof.Machine

/-- K_R, the red shift addend (R6). -/
def kR : Nat := 100

/-- K_G, the green shift addend (R6). -/
def kG : Nat := 50

/-- K_B, the blue shift addend (R6). -/
def kB : Nat := 150

/-- CH, the channels of a pixel (R6); a sample is one byte, so it is also the bytes of a pixel (R51). -/
def channels : Nat := 4

/-- The bits of one channel sample (R6). -/
abbrev sampleBits : Nat := 8

/-- WT, the blur weights in row-major order (R6, R152). -/
def weights : List Nat := [1, 2, 1, 2, 4, 2, 1, 2, 1]

/-- NORM_SHIFT: the normalisation divides by 2^4 = 16 (R6, R157). -/
def normShift : Nat := 4

/-- MARGIN, the exclusion margin on each side (R6, R165). -/
def margin : Nat := 3

end Sys2Proof.Machine
end

