-- ==== Sys2Proof/Machine/Operands.lean ====
section
/-! DEFINITION. Operand assembly: pixel lanes (R10, R53, R72), the fields a register write slices out of `D` (R74), the
values of the constant registers (R30, R31), the caller's bytes (R51) and the platform addresses of the window (R58). -/

namespace Sys2Proof.Machine

/-- `lane(w, c) = w[8c+7 : 8c]`, channel c of a pixel word: 0 R, 1 G, 2 B, 3 A (R10). -/
def lane (w : Word) (c : Nat) : Byte := w.extractLsb' (sampleBits * c) sampleBits

/-- `pix(r, g, b, a)`, the pixel word with R in [7:0] and A in [31:24] (R10, R53). -/
def pix (r g b a : Byte) : Word := a ++ b ++ g ++ r

/-- The 16-bit field W or H of a written value, `D[15:0]` (R25, R26, R118, R120). -/
def dimField (d : Word) : BitVec 16 := d.extractLsb' 0 16

/-- The value of PARAM: reserved [31:28], NORM_SHIFT [27:24], MARGIN [23:16], MAX_WIDTH [15:0] (R30). -/
def paramValue (p : Config.Params) : Word :=
  0#4 ++ BitVec.ofNat 4 normShift ++ BitVec.ofNat 8 margin ++ p.maxWidth

/-- The value of SHIFTK: reserved [31:24], K_B, K_G, K_R, in the lane order of a pixel (R31). -/
def shiftkValue : Word := pix (BitVec.ofNat 8 kR) (BitVec.ofNat 8 kG) (BitVec.ofNat 8 kB) 0

/-- The four bytes of the caller's buffer that a pixel word stands for, at `4p` to `4p + 3` (R51, R53). -/
def wordBytes (w : Word) : List Byte := (List.range channels).map (lane w)

/-- The platform byte address of a register word address (R58, R71). REG_BASE may be any natural number: the spec states
no alignment for it (log entry 22). -/
def platformAddr (p : Config.Params) (a : RegAddr) : Nat := p.regBase + 4 * a.toNat

/-- The word address a platform byte address selects: none outside the 256-byte window (R58), and none where it is
misaligned, which is an error of the platform's adapter and never reaches the block (R55). DESIGN CHOICE (log entry 22):
misaligned means that bits [1:0] of the offset from REG_BASE are not 00. R55 names bits [1:0] of the byte address, and
the spec does not say that REG_BASE is a multiple of 4; where it is one, the two agree. -/
def wordAddrOf (p : Config.Params) (addr : Nat) : Option RegAddr :=
  if p.regBase ≤ addr ∧ addr < p.regBase + 256 ∧ (addr - p.regBase) % 4 = 0 then
    some (BitVec.ofNat 6 ((addr - p.regBase) / 4))
  else none

end Sys2Proof.Machine
end

