-- ==== Sys2Proof/Machine/Ops.lean ====
section
/-! DEFINITION. The named operations over the state: the pixel-indexed maps (R35), the frame terms (R11), the stream
guards (R182, R185, R187), error entry (R214), job acceptance and completion (R106, R110), reset (R240). -/

namespace Sys2Proof.Machine

/-! ### Outcomes -/

/-- Do `f` after an outcome: only a next state goes on. -/
def andThen (o : Host.Outcome State Fault Refusal) (f : State → Host.Outcome State Fault Refusal) :
    Host.Outcome State Fault Refusal :=
  match o with
  | .next s => f s
  | .fault r => .fault r
  | .refused r => .refused r

/-- The next state of an outcome, if it has one. -/
def nextState? (o : Host.Outcome State Fault Refusal) : Option State :=
  match o with
  | .next s => some s
  | .fault _ => none
  | .refused _ => none

/-! ### The pixel-indexed maps HIST and In -/

/-- The word at index `q`; none where it is unwritten (R36). -/
def Memory.read : Memory → Nat → Option Word
  | [], _ => none
  | (k, v) :: m, q => if k = q then some v else Memory.read m q

/-- Write index `q`, keeping the indices rising (R35, R183). -/
def Memory.write : Memory → Nat → Word → Memory
  | [], q, w => [(q, w)]
  | (k, v) :: m, q, w =>
    if q < k then (q, w) :: (k, v) :: m
    else if q = k then (q, w) :: m
    else (k, v) :: Memory.write m q w

/-- Discard every entry below index `b` (R35). -/
def Memory.dropBelow (m : Memory) (b : Nat) : Memory := m.filter fun e => decide (b ≤ e.1)

/-- Read several entries; the first unwritten one is the fault of R36. -/
def Memory.readAll (m : Memory) : List Nat → Except Fault (List Word)
  | [] => .ok []
  | q :: qs =>
    match Memory.read m q with
    | none => .error (.histUnwritten q)
    | some w =>
      match Memory.readAll m qs with
      | .error f => .error f
      | .ok ws => .ok (w :: ws)

/-! ### Frame terms and stream guards -/

/-- `N = W * H`, exact (R11). -/
def State.frameN (s : State) : Nat := s.width.toNat * s.height.toNat

/-- `LOOK = W + 2 + SLACK` (R181). -/
def State.look (s : State) : Nat := s.width.toNat + 2 + s.params.slack

/-- The input acceptance guard (R182); `IN_COUNT − OUT_COUNT < LOOK` is written with the subtrahend on the right. -/
def State.inAccept (s : State) : Bool :=
  s.busy && decide (s.inCount.toNat < s.frameN) && decide (s.inCount.toNat < s.outCount.toNat + s.look)

/-- `Avail(p)`: output p may be offered (R185). -/
def State.avail (s : State) (p : Nat) : Bool :=
  decide (min (p + s.width.toNat + 2) s.frameN ≤ s.inCount.toNat)

/-- The output offer guard (R187). -/
def State.outOffer (s : State) : Bool :=
  s.busy && decide (s.outCount.toNat < s.frameN) && s.avail s.outCount.toNat

/-- The port `out_data`: OBUF.word while `out_valid` = 1 (R187), a free value otherwise (93 U14). -/
def State.outData (s : State) : Word :=
  if s.obufValid then s.obufWord else Config.freeOutData s.freeIx

/-! ### Register results and configuration writes -/

/-- A register read's result Q, driven on `reg_rdata` (R71, R73). -/
def State.answer (s : State) (q : Word) : State := { s with regQ := some q }

/-- A write of WIDTH, ignored while BUSY = 1 (R118). -/
def State.writeWidth (s : State) (d : Word) : State := if s.busy then s else { s with width := dimField d }

/-- A write of HEIGHT, ignored while BUSY = 1 (R120). -/
def State.writeHeight (s : State) (d : Word) : State := if s.busy then s else { s with height := dimField d }

/-- A write of LENGTH, ignored while BUSY = 1 (R122). -/
def State.writeLength (s : State) (d : Word) : State := if s.busy then s else { s with length := d }

/-! ### The job -/

/-- What a START that is not ignored does before its check: the old result and the counters are cleared (R104). -/
def State.clearForStart (s : State) : State :=
  { s with done := false, err := false, errcode := 0, inCount := 0, outCount := 0 }

/-- `Accept()`, the effect of a START that passes its check (R106). `In[]` is the job's own, so it starts unwritten
with HIST (DEDUCED, log entry 7). -/
def State.acceptJob (s : State) : State :=
  { s with busy := true, hist := [], obufValid := false, inPix := [] }

/-- `raise InvalidBitmap(code)`: the block's one error entry (R214). No state is saved, no mode or mask changes, there
is no handler address (R216). -/
def State.raiseInvalidBitmap (s : State) (code : BitVec 4) : State :=
  { s with err := true, errcode := code }

/-- What the acceptance of input pixel `IN_COUNT` records: the input word, its post-shift word `sh`, and the count
(R183). -/
def State.recordInput (s : State) (w sh : Word) : State :=
  { s with
    inPix := Memory.write s.inPix s.inCount.toNat w
    hist := Memory.write s.hist s.inCount.toNat sh
    inCount := s.inCount + 1 }

/-- The offer of an output word: OBUF <- (1, w) (R37, R187). -/
def State.loadObuf (s : State) (w : Word) : State := { s with obufValid := true, obufWord := w }

/-- What the acceptance of output pixel `OUT_COUNT` does before completion is looked at: the host takes OBUF.word, OBUF
empties, the count rises (R188), and the HIST entries no later output reads, those with `q < OUT_COUNT − W − 1`, are
discarded (R35; DESIGN CHOICE, log entry 5). -/
def State.deliver (s : State) : State :=
  { s with
    taken := s.obufWord :: s.taken
    obufValid := false
    outCount := s.outCount + 1
    hist := Memory.dropBelow s.hist ((s.outCount + 1).toNat - (s.width.toNat + 1)) }

/-- Completion, by the event that accepts output beat N − 1 (R110). -/
def State.complete (s : State) : State := { s with busy := false, done := true, obufValid := false }

/-! ### Reset and the schedule -/

/-- Reset (R240): every field of the block; the parameters, what the host has taken (R242) and what is still scheduled
stay. OBUF.word takes the value `State.reset` names (log entry 4). -/
def State.resetBlock (s : State) : State :=
  { s with
    doneIe := false
    errIe := false
    busy := false
    done := false
    err := false
    errcode := 0
    width := 0
    height := 0
    length := 0
    inCount := 0
    outCount := 0
    hist := []
    obufValid := false
    obufWord := 0
    inPix := [] }

/-- The edge that comes next. Past the end of the schedule the host does nothing more and the engine does whatever it may
at every edge, so that no run delays an enabled load for ever (weak fairness, R187 and R255; log entry 17). -/
def State.nextCycle (s : State) : Cycle :=
  match s.sched with
  | [] => Cycle.engineOnly
  | c :: _ => c

/-- The state in which the next edge happens: the edge is taken off the schedule, no read result is driven yet, and the
free values move on. -/
def State.beginEdge (s : State) : State :=
  { s with sched := s.sched.tail, regQ := none, freeIx := s.freeIx + 1 }

/-- The edge that presents one transaction and nothing else, to a willing engine that does not load OBUF. -/
def presentCycle : Txn → Cycle
  | .reg w => { Cycle.idle with reg := some w }
  | .pin w => { Cycle.idle with inBeat := some w, engineReady := true }
  | .pout _ => { Cycle.idle with outReady := true }

/-- Schedule an edge before all others. -/
def State.present (s : State) (c : Cycle) : State := { s with sched := c :: s.sched }

end Sys2Proof.Machine
end

