-- ==== Sys2Proof/Machine/JobControl.lean ====
section
/-! DEFINITION. START and its check (R104–R108, R211–R215). -/

namespace Sys2Proof.Machine

/-- `Check(W, H, L)`: 0 passes, 1 is INVALID_BITMAP, 2 is UNSUPPORTED_SIZE; the order is the priority of R213, and
`4*W*H` is exact (R105). -/
def startCheck (p : Config.Params) (W H : BitVec 16) (L : BitVec 32) : BitVec 4 :=
  if W.toNat = 0 ∨ H.toNat = 0 then 1
  else if L.toNat ≠ channels * W.toNat * H.toNat then 1
  else if p.maxWidth.toNat < W.toNat then 2
  else 0

/-- START on an idle block, the interrupt enables already written: clear, check, then accept or record the error
(R104). -/
def State.startJob (s : State) : State :=
  let s1 := s.clearForStart
  let code := startCheck s1.params s1.width s1.height s1.length
  if code = 0 then s1.acceptJob else s1.raiseInvalidBitmap code

/-- START (R104); while BUSY = 1 only the interrupt enables change (R107). -/
def execStart (d : Word) (s : State) : Host.Outcome State Fault Refusal :=
  let s1 := s.writeIe d
  if s1.busy then .next s1 else .next s1.startJob

end Sys2Proof.Machine
end

