-- ==== Sys2Proof/Machine/RegRead.lean ====
section
/-! DEFINITION. The register reads (R100, R102, R117–R128). A read changes no state of the block (R57); its result is
driven on `reg_rdata`. -/

namespace Sys2Proof.Machine

/-- RD_CTRL (R100). -/
def execRdCtrl (s : State) : Host.Outcome State Fault Refusal := .next (s.answer (ctrlValue s))

/-- RD_STATUS (R102). -/
def execRdStatus (s : State) : Host.Outcome State Fault Refusal := .next (s.answer (statusValue s))

/-- RD_WIDTH (R117). -/
def execRdWidth (s : State) : Host.Outcome State Fault Refusal := .next (s.answer (s.width.setWidth 32))

/-- RD_HEIGHT (R119). -/
def execRdHeight (s : State) : Host.Outcome State Fault Refusal := .next (s.answer (s.height.setWidth 32))

/-- RD_LENGTH (R121). -/
def execRdLength (s : State) : Host.Outcome State Fault Refusal := .next (s.answer s.length)

/-- RD_IN_COUNT (R123). -/
def execRdInCount (s : State) : Host.Outcome State Fault Refusal := .next (s.answer s.inCount)

/-- RD_OUT_COUNT (R124). -/
def execRdOutCount (s : State) : Host.Outcome State Fault Refusal := .next (s.answer s.outCount)

/-- RD_PARAM (R125). -/
def execRdParam (s : State) : Host.Outcome State Fault Refusal := .next (s.answer (paramValue s.params))

/-- RD_SHIFTK (R126). -/
def execRdShiftk (s : State) : Host.Outcome State Fault Refusal := .next (s.answer shiftkValue)

/-- What a reserved word address reads as (R32, R128). -/
def reservedValue (_a : RegAddr) : Word := 0

/-- RD_RSVD (R128). -/
def execRdRsvd (a : RegAddr) (s : State) : Host.Outcome State Fault Refusal := .next (s.answer (reservedValue a))

end Sys2Proof.Machine
end

