-- ==== Sys2Proof/Machine/RegWrite.lean ====
section
/-! DEFINITION. The register writes other than START (R101, R115, R118, R120, R122, R127, R129). -/

namespace Sys2Proof.Machine

/-- WR_CTRL: both interrupt enables, in every job state (R101). -/
def execWrCtrl (d : Word) (s : State) : Host.Outcome State Fault Refusal := .next (s.writeIe d)

/-- WR_STATUS: write-1-to-clear (R115). -/
def execWrStatus (d : Word) (s : State) : Host.Outcome State Fault Refusal := .next (s.clearStatus d)

/-- WR_WIDTH (R118). -/
def execWrWidth (d : Word) (s : State) : Host.Outcome State Fault Refusal := .next (s.writeWidth d)

/-- WR_HEIGHT (R120). -/
def execWrHeight (d : Word) (s : State) : Host.Outcome State Fault Refusal := .next (s.writeHeight d)

/-- WR_LENGTH (R122). -/
def execWrLength (d : Word) (s : State) : Host.Outcome State Fault Refusal := .next (s.writeLength d)

/-- WR_RO: a write to a read-only register has no effect and no bus error (R127). -/
def execWrRo (_a : RegAddr) (_d : Word) (s : State) : Host.Outcome State Fault Refusal := .next s

/-- WR_RSVD: a write to a reserved address has no effect (R129). -/
def execWrRsvd (_a : RegAddr) (_d : Word) (s : State) : Host.Outcome State Fault Refusal := .next s

end Sys2Proof.Machine
end

