-- ==== Sys2Proof/Machine/Shift.lean ====
section
/-! DEFINITION. Pass 1, the colour shift (R130–R136). -/

namespace Sys2Proof.Machine

/-- One lane of SHIFT: addition modulo 256 with the carry discarded (R131, R134). -/
def shiftLane (v : Byte) (k : Nat) : Byte := BitVec.ofNat 8 ((v.toNat + k) % 256)

/-- `Shift(w)`: the three colour lanes shifted, each on its own, alpha copied (R131, R133). -/
def shift (w : Word) : Word :=
  pix (shiftLane (lane w 0) kR) (shiftLane (lane w 1) kG) (shiftLane (lane w 2) kB) (lane w 3)

end Sys2Proof.Machine
end

