-- ==== Sys2Proof/Machine/Stream.lean ====
section
/-! DEFINITION. The stream beats PIXEL_IN (R183, R184) and PIXEL_OUT (R188). -/

namespace Sys2Proof.Machine

/-- PIXEL_IN: where `InAccept` holds the beat is accepted as pixel IN_COUNT and its shifted word enters HIST (R183);
otherwise it is not accepted and changes no state, and the host keeps it (R184). -/
def execPixelIn (w : Word) (s : State) : Host.Outcome State Fault Refusal :=
  if s.inAccept then .next (s.recordInput w (shift w)) else .next s

/-- PIXEL_OUT: while OBUF.valid = 1 the host takes its word, and the N-th beat completes the job (R188, R110); while
`out_valid` = 0 the host's pop waits and nothing changes (R188). -/
def execPixelOut (s : State) : Host.Outcome State Fault Refusal :=
  if s.obufValid then
    if s.outCount.toNat + 1 = s.frameN then .next s.deliver.complete else .next s.deliver
  else .next s

end Sys2Proof.Machine
end

