-- ==== Sys2Proof/Machine/Dispatch.lean ====
section
/-! DEFINITION. One arm per instruction, each one call of its meaning. -/

namespace Sys2Proof.Machine

def exec (i : Instr) (s : State) : Host.Outcome State Fault Refusal :=
  match i with
  | .rdCtrl => Sys2Proof.Machine.execRdCtrl s
  | .rdStatus => Sys2Proof.Machine.execRdStatus s
  | .rdWidth => Sys2Proof.Machine.execRdWidth s
  | .rdHeight => Sys2Proof.Machine.execRdHeight s
  | .rdLength => Sys2Proof.Machine.execRdLength s
  | .rdInCount => Sys2Proof.Machine.execRdInCount s
  | .rdOutCount => Sys2Proof.Machine.execRdOutCount s
  | .rdParam => Sys2Proof.Machine.execRdParam s
  | .rdShiftk => Sys2Proof.Machine.execRdShiftk s
  | .rdRsvd a => Sys2Proof.Machine.execRdRsvd a s
  | .wrCtrl d => Sys2Proof.Machine.execWrCtrl d s
  | .start d => Sys2Proof.Machine.execStart d s
  | .wrStatus d => Sys2Proof.Machine.execWrStatus d s
  | .wrWidth d => Sys2Proof.Machine.execWrWidth d s
  | .wrHeight d => Sys2Proof.Machine.execWrHeight d s
  | .wrLength d => Sys2Proof.Machine.execWrLength d s
  | .wrRo a d => Sys2Proof.Machine.execWrRo a d s
  | .wrRsvd a d => Sys2Proof.Machine.execWrRsvd a d s
  | .pixelIn w => Sys2Proof.Machine.execPixelIn w s
  | .pixelOut => Sys2Proof.Machine.execPixelOut s

end Sys2Proof.Machine
end

