-- ==== Sys2Proof/Machine/Blur.lean ====
section
/-! DEFINITION. Pass 2, the 3×3 blur: the interior predicate, the window and the weighted sum (R150–R165). -/

namespace Sys2Proof.Machine

/-- `Interior(y, x)`, with the margin added on the left so that nothing underflows (R151). -/
def interior (W H y x : Nat) : Bool :=
  decide (margin ≤ y) && decide (y + margin < H) && decide (margin ≤ x) && decide (x + margin < W)

/-- The nine indices `p + dy*W + dx` in row-major order, dy and dx from −1 to 1 (R153). They are written
`(p + i*W + j) − (W + 1)` with i = dy + 1 and j = dx + 1; at an interior pixel nothing underflows (R154). -/
def windowIndices (W p : Nat) : List Nat :=
  [0, 1, 2].flatMap fun i => [0, 1, 2].map fun j => p + i * W + j - (W + 1)

/-- The accumulation of `weight * sample` over the window, exact: it never exceeds 4080, so every accumulator of 12 bits
or more agrees (R153, R156). -/
def weightedSum : List Nat → List Byte → Nat
  | wt :: wts, v :: vs => wt * v.toNat + weightedSum wts vs
  | _, _ => 0

/-- `sum >> 4` as an 8-bit sample: floor division by 16 with no rounding (R157), which always fits (R158). -/
def normalise (sum : Nat) : Byte := BitVec.ofNat 8 (sum >>> normShift)

/-- The blur of one lane of a window given in row-major order (R153). -/
def blurSamples (vs : List Byte) : Byte := normalise (weightedSum weights vs)

/-- The blur of channel c of nine post-shift words (R153). -/
def blurLane (ws : List Word) (c : Nat) : Byte := blurSamples (ws.map fun w => lane w c)

/-- An interior output word: the three blurred lanes and the input's alpha (R160, R190). -/
def blurWord (ws : List Word) (inp : Word) : Word :=
  pix (blurLane ws 0) (blurLane ws 1) (blurLane ws 2) (lane inp 3)

end Sys2Proof.Machine
end

