-- ==== Sys2Proof/Machine/Engine.lean ====
section
/-! DEFINITION. The engine: forming an output word from HIST (R190), offering it (R187), readiness for input (R182). -/

namespace Sys2Proof.Machine

/-- `Out[p]` as the engine forms it: at an interior pixel the blur of nine HIST words with the alpha of `In[p]`, at any
other pixel the HIST word itself (R190). Reading an unwritten entry is a fault (R36). -/
def outWord (s : State) (p : Nat) : Except Fault Word :=
  let W := s.width.toNat
  let H := s.height.toNat
  if interior W H (p / W) (p % W) then
    match Memory.readAll s.hist (windowIndices W p) with
    | .error f => .error f
    | .ok ws =>
      match Memory.read s.inPix p with
      | none => .error (.inputUnwritten p)
      | some w => .ok (blurWord ws w)
  else
    match Memory.read s.hist p with
    | none => .error (.histUnwritten p)
    | some w => .ok w

/-- The engine's own action: where `OutOffer` holds and OBUF is empty, load `Out[OUT_COUNT]` (R187). -/
def engineLoad (s : State) : Host.Outcome State Fault Refusal :=
  if s.outOffer && !s.obufValid then
    match outWord s s.outCount.toNat with
    | .ok w => .next (s.loadObuf w)
    | .error f => .fault f
  else .next s

/-- `in_ready` at an edge: the engine's willingness, and never 1 unless `InAccept` holds (R182). -/
def inReady (c : Cycle) (s : State) : Bool := c.engineReady && s.inAccept

end Sys2Proof.Machine
end

