-- ==== Sys2Proof/Machine/Edge.lean ====
section
/-! DEFINITION. One rising edge of `clk`: the transactions it carries, in the order of R116, and the engine's offer. -/

namespace Sys2Proof.Machine

/-- The REG transaction of the edge, if one is presented: the bus never waits (R73, R223). -/
def regPhase (c : Cycle) (s : State) : Host.Outcome State Fault Refusal :=
  match c.reg with
  | none => .next s
  | some w => exec (decode (.reg w)) s

/-- The output beat of the edge, if it transfers; the beat is the word OBUF holds (R73, R188). -/
def outPhase (fires : Bool) (s : State) : Host.Outcome State Fault Refusal :=
  if fires then exec (decode (.pout s.obufWord)) s else .next s

/-- The input beat of the edge, if it transfers: the word present at the edge (R73, R194). -/
def inPhase (c : Cycle) (ready : Bool) (s : State) : Host.Outcome State Fault Refusal :=
  match c.inBeat with
  | none => .next s
  | some w => if ready then exec (decode (.pin w)) s else .next s

/-- The engine's load of OBUF, if it acts at this edge. It comes after the edge's transactions (log entry 13). -/
def enginePhase (c : Cycle) (s : State) : Host.Outcome State Fault Refusal :=
  if c.engineLoad then engineLoad s else .next s

/-- An edge with `rst` = 1: reset dominates every transaction of the edge, and the result of a read presented in it is a
free value (R116, R240, 93 U16). -/
def rstEdge (c : Cycle) (s : State) : State :=
  match c.reg with
  | none => s.resetBlock
  | some w => if regWe w then s.resetBlock else s.resetBlock.answer (Config.freeReadData s.freeIx)

/-- One edge: REG transaction, output beat, input beat, then the engine. `in_ready` and `out_valid` are those of the
state before the edge (R116). -/
def runEdge (c : Cycle) (s : State) : Host.Outcome State Fault Refusal :=
  if c.rst then .next (rstEdge c s)
  else
    andThen (regPhase c s) fun s1 =>
      andThen (outPhase (s.obufValid && c.outReady) s1) fun s2 =>
        andThen (inPhase c (inReady c s) s2) fun s3 =>
          enginePhase c s3

/-- `reg_rdata` in the cycle of edge `c`, before which the state is `s`: the result of the read presented in it, from the
state before the edge (R73), a free value under `rst` (93 U16), and none where no read is presented. -/
def regRdata (c : Cycle) (s : State) : Option Word :=
  if c.rst then (rstEdge c { s with regQ := none }).regQ
  else
    match nextState? (regPhase c { s with regQ := none }) with
    | none => none
    | some t => t.regQ

/-- The output ports of R73. -/
structure Outputs where
  /-- `reg_ready` -/
  regReady : Bool
  /-- `reg_rdata`, where a read is presented. -/
  regRdata : Option Word
  /-- `in_ready` -/
  inReady : Bool
  /-- `out_valid` -/
  outValid : Bool
  /-- `out_data` -/
  outData : Word
  /-- `irq` -/
  irq : Bool
deriving DecidableEq, Repr

/-- What the ports show in the cycle of edge `c`: all from the state before the edge (R73, R116); `reg_ready` is tied
to 1 (R223). -/
def outputs (c : Cycle) (s : State) : Outputs where
  regReady := true
  regRdata := regRdata c s
  inReady := inReady c s
  outValid := s.obufValid
  outData := s.outData
  irq := irq s

/-- The edge that presents a table word; an idle edge where the decoder refuses it. -/
def tableCycle (nbits w : Nat) : Cycle :=
  match tableTxn nbits w with
  | .ok t => presentCycle t
  | .error _ => Cycle.idle

end Sys2Proof.Machine
end

