-- ==== Sys2Proof/Machine/Step.lean ====
section
/-! DEFINITION. The step of the machine: the next scheduled clock edge. -/

namespace Sys2Proof.Machine

/-- One step: the next edge of the schedule happens. With at most one transaction an edge this is the transaction-level
machine of R60; with several it is R116. -/
def step (s : State) : Host.Outcome State Fault Refusal := runEdge s.nextCycle s.beginEdge

/-- `s` with a table word presented at the very next edge, to a willing engine. A program of this block is the host's
sequence of transactions (R70, R78); this stands for the host presenting one (log entry 1). -/
def State.withFetchWord (s : State) (nbits w : Nat) : State := s.present (tableCycle nbits w)

end Sys2Proof.Machine
end

