-- ==== Sys2Proof/Machine/Asm.lean ====
section
/-! DEFINITION. The assembler lines and pseudo-instructions of R78 and R79, as the transactions they stand for. `wait` is
a loop of the host and no operation of the block (R79): it has no fixed expansion, and is a line of its own in
Machine/HostProgram.lean, which says how a host runs its lines. -/

namespace Sys2Proof.Machine

/-- The register names of R78, and a raw word address (`@0xNN` is `.raw (0xNN / 4)`). -/
inductive RegName where
  | ctrl
  | status
  | width
  | height
  | length
  | inCount
  | outCount
  | param
  | shiftk
  | raw (a : RegAddr)
deriving DecidableEq, Repr

/-- The word address of a register name (R23–R31). -/
def RegName.addr : RegName → RegAddr
  | .ctrl => 0
  | .status => 1
  | .width => 2
  | .height => 3
  | .length => 4
  | .inCount => 5
  | .outCount => 6
  | .param => 7
  | .shiftk => 8
  | .raw a => a

/-- `rd <reg>` (R78). -/
def asmRd (r : RegName) : Txn := .reg (regWord false r.addr 0)

/-- `wr <reg>, <imm32>` (R78). -/
def asmWr (r : RegName) (d : Word) : Txn := .reg (regWord true r.addr d)

/-- `push <imm32>` (R78). -/
def asmPush (w : Word) : Txn := .pin w

/-- `pop` (R78). The word of a POUT beat is the block's to drive. -/
def asmPop : Txn := .pout 0

/-- `start` (R79). -/
def asmStart : List Txn := [asmWr .ctrl 1]

/-- `start_ie <d>, <e>` (R79). -/
def asmStartIe (d e : Bool) : List Txn := [asmWr .ctrl ((BitVec.ofBool e ++ BitVec.ofBool d ++ 1#1).setWidth 32)]

/-- `clear` (R79). -/
def asmClear : List Txn := [asmWr .status 6]

/-- `config <w>, <h>` (R79). DESIGN CHOICE (log entry 23): R78 allows only literals below 2^32 and R79 does not say what
the line is where w, h or 4·w·h is 2^32 or more; here each written value is taken modulo 2^32. -/
def asmConfig (w h : Nat) : List Txn :=
  [asmWr .width (BitVec.ofNat 32 w), asmWr .height (BitVec.ofNat 32 h), asmWr .length (BitVec.ofNat 32 (channels * w * h))]

/-- `pushpix <r>, <g>, <b>, <a>` (R79). -/
def asmPushPix (r g b a : Byte) : List Txn := [asmPush (pix r g b a)]

/-- `repeat <n> { … }` (R79), of transactions or of any other lines. -/
def asmRepeat {α : Type} (n : Nat) (lines : List α) : List α := (List.replicate n lines).flatten

end Sys2Proof.Machine
end

