-- ==== Sys2Proof/Machine/Fairness.lean ====
section
/-! DEFINITION. Weak fairness, the one thing the spec fixes about time beside order (R182, R187, R255): an enabled action
of the engine happens after finitely many edges. It is a property of infinite runs, so these are stated over a sequence
of edges and the states between them; no cycle count enters. -/

namespace Sys2Proof.Machine

/-- The engine's load is enabled: OutOffer holds and OBUF is empty (R187). -/
def State.loadEnabled (s : State) : Bool := s.outOffer && !s.obufValid

/-- `states` is the run of the machine over the edges `edges`: each edge is presented to the state before it and steps
to the state after it, with no stop. -/
def IsRun (edges : Nat → Cycle) (states : Nat → State) : Prop :=
  ∀ n, step ((states n).present (edges n)) = .next (states (n + 1))

/-- Weak fairness of input acceptance (R182): where from some edge on InAccept holds and the host offers a beat at every
edge, a beat is accepted at one of them. -/
def AcceptFair (edges : Nat → Cycle) (states : Nat → State) : Prop :=
  ∀ n, (∀ m, n ≤ m → (states m).inAccept = true ∧ (edges m).inBeat.isSome = true) →
    ∃ m, n ≤ m ∧ inReady (edges m) (states m) = true

/-- Weak fairness of the output offer (R187): where from some edge on the load is enabled at every edge, the engine loads
at one of them. -/
def LoadFair (edges : Nat → Cycle) (states : Nat → State) : Prop :=
  ∀ n, (∀ m, n ≤ m → (states m).loadEnabled = true) → ∃ m, n ≤ m ∧ (edges m).engineLoad = true

/-- The runs that the spec's engine can have (R255). -/
structure WeaklyFair (edges : Nat → Cycle) (states : Nat → State) : Prop where
  accept : AcceptFair edges states
  load : LoadFair edges states

/-- The host of R189: it offers a beat whenever `in_ready` could be 1, accepts every offered output, and nobody resets. -/
structure HostServes (edges : Nat → Cycle) (states : Nat → State) : Prop where
  offers : ∀ n, (states n).inAccept = true → (edges n).inBeat.isSome = true
  takes : ∀ n, (states n).obufValid = true → (edges n).outReady = true
  noReset : ∀ n, (edges n).rst = false

end Sys2Proof.Machine
end

