-- ==== Sys2Proof/Machine/HostProgram.lean ====
section
/-! DEFINITION. A host that runs a program of R78 line by line. Each line stays on the ports until it completes: a `push`
until its beat is accepted (R78, R184), a `pop` until a word is there to take (R188), a `wait` until a read of STATUS
shows DONE or ERR (R79); a register line completes at its own edge (R223). A line that never completes is a hang of the
host (R250, R251). The host is outside the block: it acts through the ports of R73 alone, one edge after another. -/

namespace Sys2Proof.Machine

/-- A line of a host program: a transaction of R78, or the poll loop `wait` of R79. -/
inductive HostLine where
  | txn (t : Txn)
  | wait
deriving DecidableEq, Repr

/-- The two choices that R182 and R187 leave to the engine at an edge. -/
structure EngineChoice where
  /-- The engine is willing to accept an input beat. -/
  ready : Bool
  /-- The engine loads OBUF, if it may. -/
  load : Bool
deriving DecidableEq, Repr

/-- A host in the middle of its program, with the block it drives. -/
structure HostRun where
  /-- The lines that have not completed, the current one first. -/
  lines : List HostLine
  block : State
deriving DecidableEq, Repr

/-- The lines of a program without `wait`. -/
def txnLines (ts : List Txn) : List HostLine := ts.map .txn

/-- The transaction that a line puts on the ports at each of its edges: for `wait`, `rd STATUS` (R79). -/
def HostLine.txnOf : HostLine → Txn
  | .txn t => t
  | .wait => asmRd .status

/-- An edge at which the host does nothing. -/
def EngineChoice.cycle (e : EngineChoice) : Cycle := { Cycle.idle with engineReady := e.ready, engineLoad := e.load }

/-- An edge at which the host is at line `l`. -/
def HostLine.cycle (l : HostLine) (e : EngineChoice) : Cycle :=
  { presentCycle l.txnOf with engineReady := e.ready, engineLoad := e.load }

/-- Whether line `l` completes at the edge `c` from `s` to `t`: its transfer takes place (R73), or, for `wait`, its read
returned a Q with `Q & 0x6 ≠ 0` (R79). -/
def HostLine.completes (l : HostLine) (c : Cycle) (s t : State) : Bool :=
  match l with
  | .txn (.reg _) => true
  | .txn (.pin _) => inReady c s
  | .txn (.pout _) => s.obufValid
  | .wait =>
    match t.regQ with
    | none => false
    | some q => decide (q &&& 6 ≠ 0)

/-- The edge at which the host is at its current line; past its last line it does nothing. -/
def HostRun.cycle (r : HostRun) (e : EngineChoice) : Cycle :=
  match r.lines with
  | [] => e.cycle
  | l :: _ => l.cycle e

/-- The lines left after the edge `c` to the block state `t`: the current line goes only if it completed. -/
def HostRun.linesAfter (r : HostRun) (c : Cycle) (t : State) : List HostLine :=
  match r.lines with
  | [] => []
  | l :: rest => if l.completes c r.block t then rest else l :: rest

/-- One edge of a host and its block. -/
def HostRun.edge (r : HostRun) (e : EngineChoice) : Host.Outcome HostRun Fault Refusal :=
  match step (r.block.present (r.cycle e)) with
  | .next t => .next { lines := r.linesAfter (r.cycle e) t, block := t }
  | .fault f => .fault f
  | .refused f => .refused f

/-- As many edges as the engine's choices say, to the first stop. -/
def HostRun.run : List EngineChoice → HostRun → Host.Outcome HostRun Fault Refusal
  | [], r => .next r
  | e :: es, r =>
    match r.edge e with
    | .next r1 => HostRun.run es r1
    | .fault f => .fault f
    | .refused f => .refused f

end Sys2Proof.Machine
end

