-- ==== Sys2Proof/Machine/Reference.lean ====
section
/-! DEFINITION. The whole-frame reference of the document, with no stream, buffer or counter (R190, R191), and what a
host driver makes of a job (R219). -/

namespace Sys2Proof.Machine

/-- `Out[p]` of R190 for a frame of input words `I`, read from the post-shift words `S[q] = Shift(I q)` (R131, R155). -/
def refOut (W H : Nat) (I : Nat → Word) (p : Nat) : Word :=
  if interior W H (p / W) (p % W) then blurWord ((windowIndices W p).map fun q => shift (I q)) (I p)
  else shift (I p)

/-- The output words of a frame in raster order. -/
def refFrame (W H : Nat) (I : Nat → Word) : List Word := (List.range (W * H)).map (refOut W H I)

/-- The input word of pixel p of a byte buffer: `pix` of bytes 4p, 4p + 1, 4p + 2, 4p + 3 (R51, R53). -/
def bufferWord (pixels : List Byte) (p : Nat) : Word :=
  pix (pixels.getD (channels * p) 0) (pixels.getD (channels * p + 1) 0) (pixels.getD (channels * p + 2) 0)
    (pixels.getD (channels * p + 3) 0)

/-- The bytes of a list of pixel words (R51, R191). -/
def frameBytes (ws : List Word) : List Byte := ws.flatMap wordBytes

/-- The document's `apply` (R191): the precondition, then every output pixel. The error is the code of R211; L is the
buffer's own length. -/
def apply (maxWidth W H : Nat) (pixels : List Byte) : Except Nat (Nat × Nat × List Byte) :=
  if W < 1 ∨ H < 1 ∨ pixels.length ≠ channels * W * H then .error 1
  else if maxWidth < W then .error 2
  else .ok (W, H, frameBytes (refFrame W H (bufferWord pixels)))

/-- The input word the job has accepted as pixel q, `In[q]`; 0 where none is accepted (no output depends on it). -/
def State.input (s : State) (q : Nat) : Word := (Memory.read s.inPix q).getD 0

/-- The output beats of the latest job that the host has taken, oldest first (R188). -/
def State.delivered (s : State) : List Word := (s.taken.take s.outCount.toNat).reverse

/-- What a host driver that presents the block as `apply` reports once a START has ended (R219): none while it runs or
before any START. DESIGN CHOICE (log entry 24): the dimensions are those of WIDTH and HEIGHT as they stand in s; R219 and
R114 fix them at completion only and do not say what is reported once a register is rewritten while DONE is still 1. -/
def driverResult (s : State) : Option (Except Nat (Nat × Nat × List Byte)) :=
  if s.err then some (.error s.errcode.toNat)
  else if s.done then some (.ok (s.width.toNat, s.height.toNat, frameBytes s.delivered))
  else none

end Sys2Proof.Machine
end

