-- ==== Sys2Proof/Safety.lean ====
section
/-! DEFINITION. What every state between two edges satisfies: the spec's own invariants (R24, R28, R29, R37, R181, R186,
R187) and what the job's data are (R35, R190). A run is safe when it never leaves these states and never stops. -/

namespace Sys2Proof.Machine

/-- What holds of STATUS (R24, R211, R218): at most one of BUSY, DONE and ERR is 1, ERRCODE is not 0 exactly when
ERR = 1, and ERRCODE 3–15 never occurs. -/
structure StatusLegal (s : State) : Prop where
  notBusyDone : ¬(s.busy = true ∧ s.done = true)
  notBusyErr : ¬(s.busy = true ∧ s.err = true)
  notDoneErr : ¬(s.done = true ∧ s.err = true)
  errcodeIff : s.errcode ≠ 0 ↔ s.err = true
  errcodeLe : s.errcode.toNat ≤ 2

/-- HIST and In in canonical form. -/
structure MemoryCanonical (s : State) : Prop where
  hist : Memory.wf s.hist
  inPix : Memory.wf s.inPix

/-- What holds of a running job. -/
structure JobLegal (s : State) : Prop where
  /-- The frame passed the START check and cannot change (R63, R105, R106). -/
  widthPos : 1 ≤ s.width.toNat
  widthMax : s.width.toNat ≤ s.params.maxWidth.toNat
  heightPos : 1 ≤ s.height.toNat
  lengthEq : s.length.toNat = 4 * s.width.toNat * s.height.toNat
  /-- A running job has an output to deliver (R110). -/
  outLt : s.outCount.toNat < s.frameN
  /-- R28. -/
  inLe : s.inCount.toNat ≤ s.frameN
  /-- R181. -/
  lookahead : s.inCount.toNat ≤ s.outCount.toNat + s.look
  /-- R250: while an input is missing, OUT_COUNT is at most `max(0, IN_COUNT − W − 1)`. -/
  lag : s.inCount.toNat < s.frameN → s.outCount.toNat ≤ s.inCount.toNat - (s.width.toNat + 1)
  /-- HIST holds exactly the live entries (R186), each the shift of the job's input (R35). -/
  histAt : ∀ q, Memory.read s.hist q =
    if s.outCount.toNat ≤ q + (s.width.toNat + 1) ∧ q < s.inCount.toNat then some (shift (s.input q)) else none
  /-- In holds exactly the accepted inputs (R183). -/
  inAt : ∀ q, (Memory.read s.inPix q).isSome = true ↔ q < s.inCount.toNat
  /-- A valid OBUF implies OutOffer (R187) and holds `Out[OUT_COUNT]` (R37, R190). -/
  obuf : s.obufValid = true →
    s.outOffer = true ∧ s.obufWord = refOut s.width.toNat s.height.toNat s.input s.outCount.toNat
  /-- The host has taken `Out[0 .. OUT_COUNT − 1]`, in order (R109, R188). -/
  delivered : s.delivered = (List.range s.outCount.toNat).map (refOut s.width.toNat s.height.toNat s.input)

/-- The invariant of the machine. -/
structure Legal (s : State) : Prop where
  params : s.params.wf
  status : StatusLegal s
  memory : MemoryCanonical s
  /-- R29. -/
  countsLe : s.outCount.toNat ≤ s.inCount.toNat
  /-- R37: `out_valid` is 0 whenever BUSY = 0. -/
  idleEmpty : s.busy = false → s.obufValid = false
  /-- Between jobs both counters are N of the last job, or 0 (R28, R29). -/
  idleCounts : s.busy = false → s.inCount = s.outCount
  job : s.busy = true → JobLegal s

/-- A state from which the next edge happens without a stop. -/
def StepsOn (s : State) : Prop := ∃ t, step s = .next t

/-- Two states agree on everything that can change a job's output: its frame and its accepted inputs (R38). -/
def SameJobInput (s t : State) : Prop :=
  s.width = t.width ∧ s.height = t.height ∧
    ∀ q v w, Memory.read s.inPix q = some v → Memory.read t.inPix q = some w → v = w

/-- An edge at which host and engine both do what they can, and no reset comes (R189): the host offers a beat and
accepts outputs, the engine is willing and loads. Any REG transaction may be on the bus. -/
def Cycle.cooperative (c : Cycle) : Bool :=
  !c.rst && c.inBeat.isSome && c.outReady && c.engineReady && c.engineLoad

end Sys2Proof.Machine
end

