-- ==== Sys2Proof/Certificates/Slice0/Obligations.lean ====
section
/-! DEFINITION. The statements for the provers. Where a statement holds "for every state", a premise `Legal s` stands only
where the state would otherwise be one no run reaches; that `Legal` holds at reset and is kept by every step are statements
of their own. -/

open Sys2Proof Sys2Proof.Machine

/-! ### Encodings -/

/-- Words of 95 §2.6 and §3 decode to the transactions they are listed as. -/
def Obligations.SpecWordsDecode : Prop :=
  decode (.reg 0x0000000000) = .rdCtrl ∧ decode (.reg 0x0100000000) = .rdStatus ∧
  decode (.reg 0x0700000000) = .rdParam ∧ decode (.reg 0x0800000000) = .rdShiftk ∧
  decode (.reg 0x0900000000) = .rdRsvd 9 ∧ decode (.reg 0x3F00000000) = .rdRsvd 63 ∧
  decode (.reg 0x4000000006) = .wrCtrl 6 ∧ decode (.reg 0x40FFFFFFFE) = .wrCtrl 0xFFFFFFFE ∧
  decode (.reg 0x4000000001) = .start 1 ∧ decode (.reg 0x4100000004) = .wrStatus 4 ∧
  decode (.reg 0x421234000A) = .wrWidth 0x1234000A ∧ decode (.reg 0x4300000007) = .wrHeight 7 ∧
  decode (.reg 0x44FFFFFFFF) = .wrLength 0xFFFFFFFF ∧ decode (.reg 0x4500000005) = .wrRo 5 5 ∧
  decode (.reg 0x49FFFFFFFF) = .wrRsvd 9 0xFFFFFFFF ∧ decode (.reg 0x7F00000001) = .wrRsvd 63 1 ∧
  decode (.pin 0x7F05C80A) = .pixelIn 0x7F05C80A ∧ decode (.pout 0x7F9BFA6E) = .pixelOut

/-- R75: the whole transaction map. Every REG word is some `WE`, `A`, `D`; each of these decodes as the map says, and
every PIN and POUT word decodes to its stream's transaction. -/
def Obligations.DecoderFollowsTransactionMap : Prop :=
  (∀ w : RegBits, ∃ we a d, w = regWord we a d) ∧
  (∀ d, decode (.reg (regWord false 0 d)) = .rdCtrl) ∧
  (∀ d, decode (.reg (regWord false 1 d)) = .rdStatus) ∧
  (∀ d, decode (.reg (regWord false 2 d)) = .rdWidth) ∧
  (∀ d, decode (.reg (regWord false 3 d)) = .rdHeight) ∧
  (∀ d, decode (.reg (regWord false 4 d)) = .rdLength) ∧
  (∀ d, decode (.reg (regWord false 5 d)) = .rdInCount) ∧
  (∀ d, decode (.reg (regWord false 6 d)) = .rdOutCount) ∧
  (∀ d, decode (.reg (regWord false 7 d)) = .rdParam) ∧
  (∀ d, decode (.reg (regWord false 8 d)) = .rdShiftk) ∧
  (∀ a d, 9 ≤ a.toNat → decode (.reg (regWord false a d)) = .rdRsvd a) ∧
  (∀ d : Word, d.getLsbD 0 = false → decode (.reg (regWord true 0 d)) = .wrCtrl d) ∧
  (∀ d : Word, d.getLsbD 0 = true → decode (.reg (regWord true 0 d)) = .start d) ∧
  (∀ d, decode (.reg (regWord true 1 d)) = .wrStatus d) ∧
  (∀ d, decode (.reg (regWord true 2 d)) = .wrWidth d) ∧
  (∀ d, decode (.reg (regWord true 3 d)) = .wrHeight d) ∧
  (∀ d, decode (.reg (regWord true 4 d)) = .wrLength d) ∧
  (∀ a d, 5 ≤ a.toNat → a.toNat ≤ 8 → decode (.reg (regWord true a d)) = .wrRo a d) ∧
  (∀ a d, 9 ≤ a.toNat → decode (.reg (regWord true a d)) = .wrRsvd a d) ∧
  (∀ w, decode (.pin w) = .pixelIn w) ∧
  (∀ w, decode (.pout w) = .pixelOut)

/-- R71: the REG format as fields, as a number, D ignored by a read, and a read's 32-bit result Q; the example
`wr WIDTH, 10`. -/
def Obligations.RegWordIsItsThreeFields : Prop :=
  (∀ we a d, (regWord we a d).toNat = we.toNat * 2 ^ 38 + a.toNat * 2 ^ 32 + d.toNat) ∧
  (∀ we a d, regWe (regWord we a d) = we ∧ regAddr (regWord we a d) = a ∧ regData (regWord we a d) = d) ∧
  (∀ a d d', decode (.reg (regWord false a d)) = decode (.reg (regWord false a d'))) ∧
  (∀ a d s, ∃ q : Word, exec (decode (.reg (regWord false a d))) s = .next { s with regQ := some q }) ∧
  encode (.wrWidth 10) = .reg 0x420000000A

/-- No bit of an encoding is dropped: decoding what the encoder gives for a well-formed instruction gives it back, for
every operand. -/
def Obligations.DecodeInvertsEncode : Prop :=
  ∀ i : Instr, i.wellFormed = true → decode (encode i) = i

/-- The other direction: a REG write and a PIN beat are encoded back bit for bit; of a REG read all but the ignored D. -/
def Obligations.EncodeInvertsDecode : Prop :=
  (∀ w : RegBits, regWe w = true → encode (decode (.reg w)) = .reg w) ∧
  (∀ w : RegBits, regWe w = false → encode (decode (.reg w)) = .reg (regWord false (regAddr w) 0)) ∧
  (∀ w, encode (decode (.pin w)) = .pin w)

/-- The decoder gives only well-formed instructions. -/
def Obligations.DecodeGivesWellFormed : Prop :=
  ∀ t : Txn, (decode t).wellFormed = true

/-! ### The step -/

/-- A step whose edge carries one transaction is `exec` of the decoded instruction, at the state with that edge taken off
the schedule, no read result driven, and the free-value counter (the model's own, log entry 12) moved on. A beat that
does not transfer leaves just that state. -/
def Obligations.StepRunsDecodedTransaction : Prop :=
  ∀ s : State, ∀ s0 : State, s0 = { s with regQ := none, freeIx := s.freeIx + 1 } →
    (∀ w, step (s.present (presentCycle (.reg w))) = exec (decode (.reg w)) s0) ∧
    (∀ w, s.inAccept = true → step (s.present (presentCycle (.pin w))) = exec (decode (.pin w)) s0) ∧
    (∀ w, s.inAccept = false → step (s.present (presentCycle (.pin w))) = .next s0) ∧
    (∀ w, s.obufValid = true → step (s.present (presentCycle (.pout w))) = exec (decode (.pout s.obufWord)) s0) ∧
    (∀ w, s.obufValid = false → step (s.present (presentCycle (.pout w))) = .next s0) ∧
    (∀ w : RegBits, step (s.withFetchWord 40 w.toNat) = exec (decode (.reg w)) s0)

/-- R116, at an edge that carries a REG transaction, an output beat and an input beat: what transfers is decided on the
state before the edge, and then the joint effect is that of an edge with the REG transaction alone, one with the output
beat alone, one with the input beat alone, and one with the engine's load alone (log entry 13), but for the model's own
bookkeeping. -/
def Obligations.EdgeIsItsEventsInOrder : Prop :=
  ∀ (s t : State) (c : Cycle), Legal s → c.rst = false → step (s.present c) = .next t →
    ∃ u, Host.Core.run Sys2Proof.core 4
        { s with sched :=
            [{ Cycle.idle with reg := c.reg },
             { Cycle.idle with outReady := s.obufValid && c.outReady },
             { Cycle.idle with
                inBeat := if inReady c s = true then c.inBeat else none
                engineReady := true },
             { Cycle.idle with engineLoad := c.engineLoad }] } = .next u ∧
      u = { t with regQ := u.regQ, freeIx := u.freeIx, sched := u.sched }

/-- The four consequences R116 draws: a START and an input beat in one cycle, and a WR_WIDTH, a STATUS W1C and a
RD_STATUS in the cycle of the completing output beat. -/
def Obligations.SameCycleConsequences : Prop :=
  (∀ (s : State) (c : Cycle), s.busy = false → step (s.present c) = step (s.present { c with inBeat := none })) ∧
  (∀ (s t : State) (c : Cycle), Legal s → c.rst = false → c.outReady = true → s.obufValid = true →
    s.outCount.toNat + 1 = s.frameN → step (s.present c) = .next t →
    t.busy = false ∧ t.done = true ∧
    (∀ d, c.reg = some (regWord true 2 d) → t.width = s.width) ∧
    (∀ d, c.reg = some (regWord false 1 d) → t.regQ = some (statusValue s) ∧ statusValue s = 1))

/-- R240: an edge with `rst` = 1, from any state and whatever else it carries, leaves every field of the block at its
reset value and nothing offered, accepted or signalled. HIST is all unwritten; of OBUF.word nothing is said. -/
def Obligations.ResetEdgeResetsEveryField : Prop :=
  ∀ (s : State) (c : Cycle), c.rst = true → ∃ t, step (s.present c) = .next t ∧
    t.doneIe = false ∧ t.errIe = false ∧ t.busy = false ∧ t.done = false ∧ t.err = false ∧ t.errcode = 0 ∧
    t.width = 0 ∧ t.height = 0 ∧ t.length = 0 ∧ t.inCount = 0 ∧ t.outCount = 0 ∧
    (∀ q, Memory.read t.hist q = none) ∧ t.obufValid = false ∧
    (∀ c', inReady c' t = false) ∧ irq t = false

/-- The state right after reset holds the values of R22 and R240, and reads them back (95 §2.9). MAX_WIDTH is not a reset
value: PARAM reads whatever the parameter is. -/
def Obligations.ResetStateHoldsSpecValues : Prop :=
  State.reset.doneIe = false ∧ State.reset.errIe = false ∧ State.reset.busy = false ∧ State.reset.done = false ∧
  State.reset.err = false ∧ State.reset.errcode = 0 ∧ State.reset.width = 0 ∧ State.reset.height = 0 ∧
  State.reset.length = 0 ∧ State.reset.inCount = 0 ∧ State.reset.outCount = 0 ∧
  (∀ q, Memory.read State.reset.hist q = none) ∧ State.reset.obufValid = false ∧
  irq State.reset = false ∧ (∀ c, inReady c State.reset = false) ∧
  exec .rdCtrl State.reset = .next (State.reset.answer 0) ∧ exec .rdStatus State.reset = .next (State.reset.answer 0)

/-! ### Register reads -/

/-- R100: RD_CTRL returns `{ERR_IE, DONE_IE, 0}` zero-extended and changes nothing; START and the reserved bits read 0;
the example of the rule. -/
def Obligations.ReadCtrl : Prop :=
  (∀ d, decode (.reg (regWord false 0 d)) = .rdCtrl) ∧
  (∀ s, ∃ q : Word, exec .rdCtrl s = .next { s with regQ := some q } ∧
    q.getLsbD 0 = false ∧ q.getLsbD 1 = s.doneIe ∧ q.getLsbD 2 = s.errIe ∧ ∀ i, 3 ≤ i → q.getLsbD i = false) ∧
  (∀ s, ∃ t, exec (.wrCtrl 6) s = .next t ∧ exec .rdCtrl t = .next { t with regQ := some 6 })

/-- R102: RD_STATUS returns `{ERRCODE, 0, ERR, DONE, BUSY}` zero-extended and changes nothing; of the states a run can
reach it returns one of the five listed values; the example of the rule. -/
def Obligations.ReadStatus : Prop :=
  (∀ d, decode (.reg (regWord false 1 d)) = .rdStatus) ∧
  (∀ s, ∃ q : Word, exec .rdStatus s = .next { s with regQ := some q } ∧
    q.getLsbD 0 = s.busy ∧ q.getLsbD 1 = s.done ∧ q.getLsbD 2 = s.err ∧ q.getLsbD 3 = false ∧
    (∀ i < 4, q.getLsbD (4 + i) = s.errcode.getLsbD i) ∧ ∀ i, 8 ≤ i → q.getLsbD i = false) ∧
  (∀ s, Legal s → statusValue s = 0x00 ∧ s.busy = false ∨ statusValue s = 0x01 ∧ s.busy = true ∨
    statusValue s = 0x02 ∧ s.done = true ∨ statusValue s = 0x14 ∧ s.errcode = 1 ∨
    statusValue s = 0x24 ∧ s.errcode = 2) ∧
  (∀ s d, s.busy = false → s.width = 0 →
    ∃ t, exec (.start d) s = .next t ∧ exec .rdStatus t = .next { t with regQ := some 0x14 })

/-- R117, R119, R121: RD_WIDTH, RD_HEIGHT and RD_LENGTH return the zero-extended field and change nothing; the examples of
the rules, on an idle block. -/
def Obligations.ReadFrameRegisters : Prop :=
  (∀ d, decode (.reg (regWord false 2 d)) = .rdWidth ∧ decode (.reg (regWord false 3 d)) = .rdHeight ∧
    decode (.reg (regWord false 4 d)) = .rdLength) ∧
  (∀ s, ∃ q : Word, q.toNat = s.width.toNat ∧ exec .rdWidth s = .next { s with regQ := some q }) ∧
  (∀ s, ∃ q : Word, q.toNat = s.height.toNat ∧ exec .rdHeight s = .next { s with regQ := some q }) ∧
  (∀ s, exec .rdLength s = .next { s with regQ := some s.length }) ∧
  (∀ s, s.busy = false →
    (∃ t, exec (.wrWidth 0x1234000A) s = .next t ∧ exec .rdWidth t = .next { t with regQ := some 0x0000000A }) ∧
    (∃ t, exec (.wrHeight 7) s = .next t ∧ exec .rdHeight t = .next { t with regQ := some 7 }) ∧
    (∃ t, exec (.wrLength 196) s = .next t ∧ exec .rdLength t = .next { t with regQ := some 0xC4 }))

/-- R123, R124: RD_IN_COUNT and RD_OUT_COUNT return the counter and change nothing; the counters are 0 after a START that
is not ignored, and OUT_COUNT ≤ IN_COUNT at every read. -/
def Obligations.ReadCounters : Prop :=
  (∀ d, decode (.reg (regWord false 5 d)) = .rdInCount ∧ decode (.reg (regWord false 6 d)) = .rdOutCount) ∧
  (∀ s, exec .rdInCount s = .next { s with regQ := some s.inCount }) ∧
  (∀ s, exec .rdOutCount s = .next { s with regQ := some s.outCount }) ∧
  (∀ s d, s.busy = false → ∃ t, exec (.start d) s = .next t ∧ t.inCount = 0 ∧ t.outCount = 0) ∧
  (∀ s, Legal s → s.outCount.toNat ≤ s.inCount.toNat)

/-- R125, R126: PARAM reads `0x04030000 | MAX_WIDTH` and SHIFTK `0x00963264` in every state; the example with
MAX_WIDTH = 2048. -/
def Obligations.ReadConstantRegisters : Prop :=
  (∀ d, decode (.reg (regWord false 7 d)) = .rdParam ∧ decode (.reg (regWord false 8 d)) = .rdShiftk) ∧
  (∀ s, exec .rdParam s = .next { s with regQ := some (0x04030000#32 ||| s.params.maxWidth.setWidth 32) }) ∧
  (∀ s, s.params.maxWidth = 2048 → exec .rdParam s = .next { s with regQ := some 0x04030800 }) ∧
  (∀ s, exec .rdShiftk s = .next { s with regQ := some 0x00963264 }) ∧
  encode .rdShiftk = .reg 0x0800000000

/-- R128: a read of word addresses 9 to 63 returns 0 and changes nothing. -/
def Obligations.ReadReserved : Prop :=
  (∀ a d, 9 ≤ a.toNat → decode (.reg (regWord false a d)) = .rdRsvd a) ∧
  (∀ a s, exec (.rdRsvd a) s = .next { s with regQ := some 0 }) ∧
  encode (.rdRsvd 63) = .reg 0x3F00000000

/-! ### Register writes -/

/-- R127, R129: a write to a read-only register (A = 5 to 8) or a reserved address (A = 9 to 63) has no effect, in any
state and for any data. -/
def Obligations.WritesWithoutEffect : Prop :=
  (∀ a d, 5 ≤ a.toNat → a.toNat ≤ 8 → decode (.reg (regWord true a d)) = .wrRo a d) ∧
  (∀ a d s, exec (.wrRo a d) s = .next s) ∧
  (∀ a d, 9 ≤ a.toNat → decode (.reg (regWord true a d)) = .wrRsvd a d) ∧
  (∀ a d s, exec (.wrRsvd a d) s = .next s) ∧
  encode (.wrRo 5 0) = .reg 0x4500000000 ∧ encode (.wrRsvd 9 0xFFFFFFFF) = .reg 0x49FFFFFFFF

/-- R101: WR_CTRL writes the two interrupt enables in every state, running or not, and nothing else; the example of the
rule. -/
def Obligations.WriteCtrl : Prop :=
  (∀ d : Word, d.getLsbD 0 = false → decode (.reg (regWord true 0 d)) = .wrCtrl d) ∧
  (∀ d s, exec (.wrCtrl d) s = .next { s with doneIe := d.getLsbD 1, errIe := d.getLsbD 2 }) ∧
  decode (.reg 0x4000000002) = .wrCtrl 2 ∧
  (∀ s, exec (.wrCtrl 2) s = .next { s with doneIe := true, errIe := false })

/-- R115: WR_STATUS clears DONE where D[1] = 1, ERR with ERRCODE where D[2] = 1, and nothing else; in RUN and for D = 0 it
has no effect; the example of the rule. -/
def Obligations.WriteStatusClears : Prop :=
  (∀ d, decode (.reg (regWord true 1 d)) = .wrStatus d) ∧
  (∀ (d : Word) (s : State), ∃ t, exec (.wrStatus d) s = .next t ∧
    t = { s with done := t.done, err := t.err, errcode := t.errcode } ∧
    t.done = (if d.getLsbD 1 = true then false else s.done) ∧
    t.err = (if d.getLsbD 2 = true then false else s.err) ∧
    t.errcode = (if d.getLsbD 2 = true then 0 else s.errcode)) ∧
  (∀ d s, Legal s → s.busy = true → exec (.wrStatus d) s = .next s) ∧
  (∀ s, exec (.wrStatus 0) s = .next s) ∧
  (∀ s, Legal s → statusValue s = 0x14 → ∃ t, exec (.wrStatus 4) s = .next t ∧ statusValue t = 0)

/-- R118, R120, R122: WR_WIDTH, WR_HEIGHT and WR_LENGTH store their field (the low 16 bits, or all 32) while BUSY = 0, are
ignored without indication while BUSY = 1, and change nothing else; the examples of the rules. -/
def Obligations.WriteFrameRegisters : Prop :=
  (∀ d, decode (.reg (regWord true 2 d)) = .wrWidth d ∧ decode (.reg (regWord true 3 d)) = .wrHeight d ∧
    decode (.reg (regWord true 4 d)) = .wrLength d) ∧
  (∀ d s, s.busy = true →
    exec (.wrWidth d) s = .next s ∧ exec (.wrHeight d) s = .next s ∧ exec (.wrLength d) s = .next s) ∧
  (∀ d s, s.busy = false → ∃ v : BitVec 16, v.toNat = d.toNat % 2 ^ 16 ∧
    exec (.wrWidth d) s = .next { s with width := v } ∧ exec (.wrHeight d) s = .next { s with height := v } ∧
    exec (.wrLength d) s = .next { s with length := d }) ∧
  encode (.wrWidth 10) = .reg 0x420000000A ∧ encode (.wrHeight 7) = .reg 0x4300000007 ∧
  encode (.wrLength 196) = .reg 0x44000000C4

/-! ### START and its check -/

/-- R105: the check, exactly. The product is exact, so a frame with `4*W*H ≥ 2^32` is refused with code 1 whatever
LENGTH holds. A START on an idle block checks WIDTH, HEIGHT and LENGTH as they stand, and ERRCODE is what the check
gives. -/
def Obligations.StartCheckIsExact : Prop :=
  ∀ (p : Config.Params) (W H : BitVec 16) (L : BitVec 32),
    (startCheck p W H L = 0 ↔ 1 ≤ W.toNat ∧ 1 ≤ H.toNat ∧ L.toNat = 4 * W.toNat * H.toNat ∧
      W.toNat ≤ p.maxWidth.toNat) ∧
    (startCheck p W H L = 1 ↔ W.toNat = 0 ∨ H.toNat = 0 ∨ L.toNat ≠ 4 * W.toNat * H.toNat) ∧
    (startCheck p W H L = 2 ↔ 1 ≤ W.toNat ∧ 1 ≤ H.toNat ∧ L.toNat = 4 * W.toNat * H.toNat ∧
      p.maxWidth.toNat < W.toNat) ∧
    (2 ^ 32 ≤ 4 * W.toNat * H.toNat → startCheck p W H L = 1) ∧
    (∀ (d : Word) (s : State), s.busy = false → s.params = p → s.width = W → s.height = H → s.length = L →
      ∃ t, exec (.start d) s = .next t ∧ t.errcode = startCheck p W H L)

/-- R106 with R104: a START on an idle block whose frame passes the check writes the interrupt enables, clears the old
result and both counters, sets BUSY, empties OBUF and makes every HIST entry unwritten; the frame can then no longer be
written. Of `In[]` nothing is said here
(the model starts it unwritten, log entry 7). -/
def Obligations.StartAcceptsValidFrame : Prop :=
  ∀ (d : Word) (s : State), s.busy = false →
    1 ≤ s.width.toNat → 1 ≤ s.height.toNat → s.length.toNat = 4 * s.width.toNat * s.height.toNat →
    s.width.toNat ≤ s.params.maxWidth.toNat →
    ∃ t, exec (.start d) s = .next t ∧ (∀ q, Memory.read t.hist q = none) ∧
      t = { s with
        doneIe := d.getLsbD 1, errIe := d.getLsbD 2, busy := true, done := false, err := false, errcode := 0
        inCount := 0, outCount := 0, hist := t.hist, obufValid := false, inPix := t.inPix } ∧
      ∀ e, exec (.wrWidth e) t = .next t ∧ exec (.wrHeight e) t = .next t ∧ exec (.wrLength e) t = .next t

/-- R107: a START while BUSY = 1 changes only the interrupt enables. -/
def Obligations.StartWhileBusyIsIgnored : Prop :=
  ∀ (d : Word) (s : State), s.busy = true →
    exec (.start d) s = .next { s with doneIe := d.getLsbD 1, errIe := d.getLsbD 2 }

/-- R213, R214: a START on an idle block whose frame fails the check ends with ERR = 1 and the code, both counters 0, and
nothing else changed but the interrupt enables. A zero dimension outranks a length mismatch, which outranks the width
limit; the example of R213. -/
def Obligations.StartRecordsRefusedFrame : Prop :=
  (∀ (d : Word) (s : State), s.busy = false →
    ∀ code : BitVec 4,
      (code = 1 ∧ (s.width.toNat = 0 ∨ s.height.toNat = 0)) ∨
      (code = 1 ∧ ¬(s.width.toNat = 0 ∨ s.height.toNat = 0) ∧
        s.length.toNat ≠ 4 * s.width.toNat * s.height.toNat) ∨
      (code = 2 ∧ ¬(s.width.toNat = 0 ∨ s.height.toNat = 0) ∧
        s.length.toNat = 4 * s.width.toNat * s.height.toNat ∧ s.params.maxWidth.toNat < s.width.toNat) →
      exec (.start d) s = .next { s with
        doneIe := d.getLsbD 1, errIe := d.getLsbD 2, done := false, err := true, errcode := code
        inCount := 0, outCount := 0 }) ∧
  (∀ (d : Word) (s : State), s.busy = false → s.width.toNat = s.params.maxWidth.toNat + 1 → s.height = 1 →
    s.length = 0 → ∃ t, exec (.start d) s = .next t ∧ t.errcode = 1)

/-- R108: after a START that fails its check nothing can be accepted or offered, and both counters are 0. -/
def Obligations.RefusedFrameMovesNoPixel : Prop :=
  ∀ (d : Word) (s t : State), Legal s → s.busy = false → startCheck s.params s.width s.height s.length ≠ 0 →
    exec (.start d) s = .next t →
    t.busy = false ∧ (∀ c, inReady c t = false) ∧ t.obufValid = false ∧ t.outOffer = false ∧
    t.inCount = 0 ∧ t.outCount = 0 ∧
    (∀ w, exec (.pixelIn w) t = .next t) ∧ exec .pixelOut t = .next t

/-! ### The pixel streams -/

/-- The three guards as the spec writes them (R182, R185, R187); `in_ready` is never 1 unless InAccept holds, and it is 1
where InAccept holds and the engine is willing. -/
def Obligations.StreamGuards : Prop :=
  ∀ s : State,
    (s.inAccept = true ↔ s.busy = true ∧ s.inCount.toNat < s.width.toNat * s.height.toNat ∧
      (s.inCount.toNat : Int) - s.outCount.toNat < s.width.toNat + 2 + s.params.slack) ∧
    (∀ p, s.avail p = true ↔ min (p + s.width.toNat + 2) (s.width.toNat * s.height.toNat) ≤ s.inCount.toNat) ∧
    (s.outOffer = true ↔ s.busy = true ∧ s.outCount.toNat < s.width.toNat * s.height.toNat ∧
      s.avail s.outCount.toNat = true) ∧
    (∀ c, inReady c s = true ↔ c.engineReady = true ∧ s.inAccept = true)

/-- R183: an accepted beat is recorded as `In[IN_COUNT]`, its shift as `HIST[IN_COUNT]`, the count rises by 1, and no other
entry or field changes; a beat that is not accepted changes nothing; the example of the rule, in a new job; the output of
an accepted pixel carries its alpha. -/
def Obligations.PixelInRecordsShiftedPixel : Prop :=
  (∀ (w : Word) (s : State), s.inAccept = true → ∃ t, exec (.pixelIn w) s = .next t ∧
    t = { s with inPix := t.inPix, hist := t.hist, inCount := s.inCount + 1 } ∧
    Memory.read t.inPix s.inCount.toNat = some w ∧
    Memory.read t.hist s.inCount.toNat = some (shift w) ∧
    (∀ q, q ≠ s.inCount.toNat → Memory.read t.inPix q = Memory.read s.inPix q ∧
      Memory.read t.hist q = Memory.read s.hist q)) ∧
  (∀ (w : Word) (s : State), s.inAccept = false → exec (.pixelIn w) s = .next s) ∧
  (∀ s : State, s.inAccept = true → s.inCount = 0 → ∃ t, exec (.pixelIn 0x7F05C80A) s = .next t ∧
    Memory.read t.hist 0 = some 0x7F9BFA6E ∧ t.inCount = 1) ∧
  (∀ (w : Word) (W H p : Nat) (I : Nat → Word), I p = w → lane (refOut W H I p) 3 = lane w 3)

/-- R184: a beat offered while BUSY = 0 or after all N inputs changes no state; kept offered across the next accepted
START it becomes pixel 0 of that job. -/
def Obligations.BeatNotAcceptedStaysWithHost : Prop :=
  (∀ (w : Word) (s : State), s.busy = false ∨ s.frameN ≤ s.inCount.toNat → exec (.pixelIn w) s = .next s) ∧
  (∀ (w d : Word) (s t : State), s.busy = false → startCheck s.params s.width s.height s.length = 0 →
    exec (.start d) s = .next t →
    ∃ u, exec (.pixelIn w) t = .next u ∧ Memory.read u.inPix 0 = some w ∧ u.inCount = 1)

/-- R188: while OBUF.valid = 1 the host takes OBUF.word, OBUF empties and OUT_COUNT rises by 1; the entries of HIST that a
later output can read stay as they are. A pop while OBUF.valid = 0 waits. The last beat is the next statement. -/
def Obligations.PixelOutDeliversObuf : Prop :=
  (∀ s : State, s.obufValid = true → s.outCount.toNat + 1 ≠ s.frameN → ∃ t, exec .pixelOut s = .next t ∧
    t = { s with taken := s.obufWord :: s.taken, obufValid := false, outCount := s.outCount + 1, hist := t.hist } ∧
    ∀ q, s.outCount.toNat ≤ q + s.width.toNat → Memory.read t.hist q = Memory.read s.hist q) ∧
  (∀ s : State, s.obufValid = false → exec .pixelOut s = .next s)

/-- R110: the event that accepts output beat N − 1 also clears BUSY, sets DONE and leaves OBUF empty; IN_COUNT is N, and
nothing else changes. Of HIST it says that no entry still within an output's reach changes; of the dead entries, which R35
lets the engine discard (the model discards them at once, log entry 5), nothing is said. -/
def Obligations.LastOutputCompletesJob : Prop :=
  ∀ s : State, Legal s → s.obufValid = true → s.outCount.toNat + 1 = s.frameN →
    ∃ t, exec .pixelOut s = .next t ∧ t.inCount.toNat = s.frameN ∧ t.outCount.toNat = s.frameN ∧
      t = { s with
        taken := s.obufWord :: s.taken, obufValid := false, outCount := s.outCount + 1
        busy := false, done := true, hist := t.hist } ∧
      ∀ q, s.outCount.toNat ≤ q + s.width.toNat → Memory.read t.hist q = Memory.read s.hist q

/-- The engine offers the output the spec defines (R187, R190): where OutOffer holds and OBUF is empty it loads
`Out[OUT_COUNT]` and changes nothing else; otherwise it changes nothing. -/
def Obligations.EngineOffersReferencePixel : Prop :=
  (∀ s : State, Legal s → s.outOffer = true → s.obufValid = false →
    engineLoad s = .next { s with
      obufValid := true
      obufWord := refOut s.width.toNat s.height.toNat s.input s.outCount.toNat }) ∧
  (∀ s : State, s.outOffer = false ∨ s.obufValid = true → engineLoad s = .next s) ∧
  (∀ s : State, Legal s → s.obufValid = true → s.outOffer = true)

/-- R37: a word that is offered stays offered, unchanged, until the host takes it; only `rst` could withdraw it. -/
def Obligations.OfferedOutputIsHeld : Prop :=
  ∀ (s t : State) (c : Cycle), Legal s → s.obufValid = true → c.rst = false → c.outReady = false →
    step (s.present c) = .next t → t.obufValid = true ∧ t.obufWord = s.obufWord ∧ t.outCount = s.outCount

/-! ### Pass 1 -/

/-- R131: SHIFT, lane by lane, as integers; alpha unchanged. -/
def Obligations.ShiftAddsModulo256 : Prop :=
  ∀ w : Word,
    (lane (shift w) 0).toNat = ((lane w 0).toNat + 100) % 256 ∧
    (lane (shift w) 1).toNat = ((lane w 1).toNat + 50) % 256 ∧
    (lane (shift w) 2).toNat = ((lane w 2).toNat + 150) % 256 ∧
    lane (shift w) 3 = lane w 3

/-- R133: no lane of the result depends on another lane. -/
def Obligations.ShiftLanesAreIndependent : Prop :=
  ∀ v w : Word, ∀ c < 4, lane v c = lane w c → lane (shift v) c = lane (shift w) c

/-- The laws of R134: each lane wraps exactly from its threshold, is undone by adding 256 − K, and SHIFT is a bijection
on words that is not its own inverse. -/
def Obligations.ShiftIsBijective : Prop :=
  (∀ v : Byte, (shiftLane v kR).toNat = if v.toNat < 156 then v.toNat + 100 else v.toNat - 156) ∧
  (∀ v : Byte, (shiftLane v kG).toNat = if v.toNat < 206 then v.toNat + 50 else v.toNat - 206) ∧
  (∀ v : Byte, (shiftLane v kB).toNat = if v.toNat < 106 then v.toNat + 150 else v.toNat - 106) ∧
  (∀ (v : Byte) (k : Nat), k ≤ 256 → shiftLane (shiftLane v k) (256 - k) = v) ∧
  (∀ v w : Word, shift v = shift w → v = w) ∧ (∀ w : Word, ∃ v, shift v = w) ∧
  ∃ w : Word, shift (shift w) ≠ w

/-! ### Pass 2 -/

/-- R151: the interior predicate is the document's `3 <= y < height-3` and `3 <= x < width-3`, read over the integers. -/
def Obligations.InteriorIsDocumentCondition : Prop :=
  ∀ W H y x : Nat, interior W H y x = true ↔
    ((3 : Int) ≤ y ∧ (y : Int) < (H : Int) - 3) ∧ ((3 : Int) ≤ x ∧ (x : Int) < (W : Int) - 3)

/-- R153 and R190 at an interior pixel: each colour lane of the output is the floor of a sixteenth of the weighted sum of
the nine post-shift samples around (y, x), and alpha is the input's. -/
def Obligations.InteriorOutputIsWeightedMean : Prop :=
  ∀ (W H y x : Nat) (I : Nat → Word), interior W H y x = true →
    (∀ c < 3, ∀ S : Nat → Nat → Nat, (∀ j i, S j i = (lane (shift (I (j * W + i))) c).toNat) →
      (lane (refOut W H I (y * W + x)) c).toNat =
        (1 * S (y - 1) (x - 1) + 2 * S (y - 1) x + 1 * S (y - 1) (x + 1)
          + 2 * S y (x - 1) + 4 * S y x + 2 * S y (x + 1)
          + 1 * S (y + 1) (x - 1) + 2 * S (y + 1) x + 1 * S (y + 1) (x + 1)) / 16) ∧
    lane (refOut W H I (y * W + x)) 3 = lane (I (y * W + x)) 3

/-- R154: at an interior pixel the nine indices are the neighbours' own, inside the frame, no row crossed. -/
def Obligations.WindowStaysInsideFrame : Prop :=
  ∀ W H y x : Nat, interior W H y x = true → ∀ q ∈ windowIndices W (y * W + x),
    q < W * H ∧ ∃ j i, q = j * W + i ∧ y ≤ j + 1 ∧ j ≤ y + 1 ∧ x ≤ i + 1 ∧ i ≤ x + 1 ∧
      2 ≤ j ∧ j + 3 ≤ H ∧ 2 ≤ i ∧ i + 3 ≤ W

/-- R156, R158: the sum never exceeds 4080, so an accumulator of any width from 12 bits holds it exactly, and the result
is the sum's sixteenth with nothing lost in narrowing. -/
def Obligations.AccumulatorNeverOverflows : Prop :=
  ∀ vs : List Byte, weightedSum weights vs ≤ 4080 ∧
    (∀ n, 12 ≤ n → weightedSum weights vs % 2 ^ n = weightedSum weights vs) ∧
    (blurSamples vs).toNat = weightedSum weights vs / 16

/-- The laws of R162: the result lies between the least and the greatest of the nine samples, a uniform window keeps its
value, the result is monotone in every sample, and it is symmetric under mirroring the window. -/
def Obligations.BlurIsMonotoneMean : Prop :=
  (∀ (vs : List Byte) (lo hi : Nat), vs.length = 9 → (∀ v ∈ vs, lo ≤ v.toNat ∧ v.toNat ≤ hi) →
    lo ≤ (blurSamples vs).toNat ∧ (blurSamples vs).toNat ≤ hi) ∧
  (∀ v : Byte, blurSamples (List.replicate 9 v) = v) ∧
  (∀ vs ws : List Byte, List.Forall₂ (fun v w : Byte => v.toNat ≤ w.toNat) vs ws →
    (blurSamples vs).toNat ≤ (blurSamples ws).toNat) ∧
  (∀ a b c d e f g h i : Byte,
    blurSamples [a, b, c, d, e, f, g, h, i] = blurSamples [c, b, a, f, e, d, i, h, g] ∧
    blurSamples [a, b, c, d, e, f, g, h, i] = blurSamples [g, h, i, d, e, f, a, b, c])

/-- R161: a frame has `max(0, W − 6) · max(0, H − 6)` interior pixels. -/
def Obligations.InteriorPixelCount : Prop :=
  ∀ W H : Nat, ((List.range (W * H)).filter fun p => interior W H (p / W) (p % W)).length = (W - 6) * (H - 6)

/-- R190, R192, R193, R163: every border pixel carries its post-shift word, every pixel its input alpha, and a frame with
W ≤ 6 or H ≤ 6 is all border. -/
def Obligations.BorderAndAlphaArePreserved : Prop :=
  ∀ (W H : Nat) (I : Nat → Word),
    (∀ p, interior W H (p / W) (p % W) = false → refOut W H I p = shift (I p)) ∧
    (∀ p, lane (refOut W H I p) 3 = lane (I p) 3) ∧
    (W ≤ 6 ∨ H ≤ 6 → ∀ p, refOut W H I p = shift (I p))

/-! ### The interrupt -/

/-- R34, R220: `irq` is a function of the state; an enable set while its STATUS bit is 1 raises it at once, and W1C, a
START on an idle block whose check passes, and `rst` clear it. -/
def Obligations.IrqFollowsStatusAndEnables : Prop :=
  (∀ s, irq s = true ↔ (s.done = true ∧ s.doneIe = true) ∨ (s.err = true ∧ s.errIe = true)) ∧
  (∀ (s : State) (d : Word), s.done = true → d.getLsbD 1 = true →
    ∃ t, exec (.wrCtrl d) s = .next t ∧ irq t = true) ∧
  (∀ (s : State) (d : Word), d.getLsbD 1 = true → d.getLsbD 2 = true →
    ∃ t, exec (.wrStatus d) s = .next t ∧ irq t = false) ∧
  (∀ (s : State) (d : Word), s.busy = false → startCheck s.params s.width s.height s.length = 0 →
    ∃ t, exec (.start d) s = .next t ∧ irq t = false)

/-! ### The whole machine -/

/-- No transaction traps, faults or is refused: every instruction answers a next state in every state (R76, R210). -/
def Obligations.NoTransactionStops : Prop :=
  ∀ (i : Instr) (s : State), ∃ t, exec i s = .next t

/-- A register read changes nothing but the driven result, and reading again gives the same result (R57). -/
def Obligations.RegisterReadsHaveNoSideEffect : Prop :=
  ∀ (w : RegBits) (s : State), regWe w = false →
    ∃ q, exec (decode (.reg w)) s = .next { s with regQ := some q } ∧
      exec (decode (.reg w)) { s with regQ := some q } = .next { s with regQ := some q }

/-- What no REG transaction ever touches: the pixel data, OBUF's word, the parameters, what the host has taken; and only
a START on an idle block touches the counters, BUSY, HIST and OBUF.valid. -/
def Obligations.RegisterTransactionsFrame : Prop :=
  ∀ (w : RegBits) (s t : State), exec (decode (.reg w)) s = .next t →
    t.params = s.params ∧ t.obufWord = s.obufWord ∧ t.taken = s.taken ∧ t.sched = s.sched ∧ t.freeIx = s.freeIx ∧
    ((∀ d, decode (.reg w) = .start d → s.busy = true) →
      t.busy = s.busy ∧ t.inCount = s.inCount ∧ t.outCount = s.outCount ∧ t.obufValid = s.obufValid ∧
      (∀ q, Memory.read t.hist q = Memory.read s.hist q ∧ Memory.read t.inPix q = Memory.read s.inPix q)) ∧
    ((∀ d, decode (.reg w) ≠ .wrWidth d) → t.width = s.width) ∧
    ((∀ d, decode (.reg w) ≠ .wrHeight d) → t.height = s.height) ∧
    ((∀ d, decode (.reg w) ≠ .wrLength d) → t.length = s.length)

/-- Nothing changes the implementation parameters (R7), so the constants a host reads never change; and no step takes a
delivered beat back from the host (R242): a step adds the offered word to what the host has taken, or nothing. -/
def Obligations.StepKeepsParametersAndDeliveredBeats : Prop :=
  ∀ s t : State, step s = .next t → t.params = s.params ∧
    (t.taken = s.taken ∨
      (s.obufValid = true ∧ s.nextCycle.rst = false ∧ s.nextCycle.outReady = true ∧ t.taken = s.obufWord :: s.taken))

/-- R112: no register transaction cancels, pauses or restarts a running job. -/
def Obligations.RunningJobIgnoresRegisterTransactions : Prop :=
  ∀ (w : RegBits) (s : State), Legal s → s.busy = true → ∃ t, exec (decode (.reg w)) s = .next t ∧
    t = { s with doneIe := t.doneIe, errIe := t.errIe, regQ := t.regQ }

/-- R103: the only ways between IDLE and RUN. A step enters RUN only by a START whose check passes, and leaves it only by
`rst` or by the acceptance of the N-th output beat, which sets DONE. -/
def Obligations.OnlyTheseEventsChangeJobState : Prop :=
  ∀ s t : State, Legal s → step s = .next t →
    (s.busy = false → t.busy = true → s.nextCycle.rst = false ∧ ∃ w d, s.nextCycle.reg = some w ∧
      decode (.reg w) = .start d ∧ startCheck s.params s.width s.height s.length = 0) ∧
    (s.busy = true → t.busy = false → s.nextCycle.rst = true ∨
      (s.obufValid = true ∧ s.nextCycle.outReady = true ∧ s.outCount.toNat + 1 = s.frameN ∧ t.done = true))

/-- The invariant holds right after reset. -/
def Obligations.ResetSatisfiesInvariant : Prop := Legal State.reset

/-- From every state of the invariant the next edge happens without a fault or refusal and ends in a state of the
invariant: no unwritten HIST entry is ever read (R36), STATUS stays legal (R24), OUT_COUNT ≤ IN_COUNT (R29), the lookahead
holds (R181), OBUF holds `Out[OUT_COUNT]` (R187), HIST holds exactly the live window (R186), and what the host has taken
is `Out[0 .. OUT_COUNT − 1]` (R109). -/
def Obligations.StepNeverStopsAndKeepsInvariant : Prop :=
  ∀ s : State, Legal s → ∃ t, step s = .next t ∧ Legal t

/-- R191: when a step completes a job, what the host has taken is the document's `apply` of the buffer it put in, byte
for byte, with the frame's dimensions unchanged (R114); a host driver reports just that (R219). -/
def Obligations.CompletedJobComputesApply : Prop :=
  ∀ s t : State, Legal s → s.busy = true → step s = .next t → t.done = true →
    t.width = s.width ∧ t.height = s.height ∧ t.delivered.length = s.width.toNat * s.height.toNat ∧
    t.delivered = refFrame t.width.toNat t.height.toNat t.input ∧
    apply t.params.maxWidth.toNat t.width.toNat t.height.toNat
      (frameBytes ((List.range (t.width.toNat * t.height.toNat)).map t.input)) =
      .ok (t.width.toNat, t.height.toNat, frameBytes t.delivered) ∧
    driverResult t = some (.ok (t.width.toNat, t.height.toNat, frameBytes t.delivered))

/-- R189, with a bound on edges at which everyone cooperates (no cycle count of the hardware is claimed, R255): from any
running job, 3·N edges without `rst` at which the host offers and accepts and the engine acts bring it to completion,
whatever REG transactions they carry. -/
def Obligations.CooperativeJobCompletes : Prop :=
  ∀ s : State, Legal s → s.busy = true → (∀ c ∈ s.sched, c.cooperative = true) → 3 * s.frameN ≤ s.sched.length →
    ∃ k t, k ≤ 3 * s.frameN ∧ Host.Core.run Sys2Proof.core k s = .next t ∧ t.done = true ∧
      t.outCount.toNat = s.frameN

/-- R250: a running job whose host offers no more input keeps running and accepts no output beyond
`max(0, IN_COUNT − W − 1)`: it hangs, it does not fault. -/
def Obligations.StarvedJobHangs : Prop :=
  ∀ (s : State) (c : Cycle), Legal s → s.busy = true → s.inCount.toNat < s.frameN → c.rst = false → c.inBeat = none →
    ∃ t, step (s.present c) = .next t ∧ t.busy = true ∧ t.inCount = s.inCount ∧
      t.outCount.toNat ≤ s.inCount.toNat - (s.width.toNat + 1)

/-- R251: in a frame of two pixels or more, a host that waits for the first output after its first push waits for ever:
whatever it does but offer a beat, no output is offered. And a host program that goes on `push`, `pop` in a new job, with
whatever lines behind, stays at that `pop` with one input accepted, for any number of edges and whatever the engine
chooses at each: the `push` completes at the first edge at which the engine is willing, the `pop` at none. That a line is on the ports at
every edge until it completes, and so which edge the `push` completes at, is the model's choice (log entry 25, DESIGN
CHOICE); that the `pop` never completes is R251. -/
def Obligations.LockStepHostDeadlocks : Prop :=
  (∀ (s : State) (c : Cycle), Legal s → s.busy = true → 2 ≤ s.frameN → s.inCount = 1 → s.outCount = 0 →
    s.obufValid = false → c.rst = false → c.inBeat = none →
    ∃ t, step (s.present c) = .next t ∧ t.busy = true ∧ t.inCount = 1 ∧ t.outCount = 0 ∧ t.obufValid = false ∧
      t.frameN = s.frameN) ∧
  (∀ (s : State) (w : Word) (rest : List HostLine) (es : List EngineChoice), Legal s → s.busy = true → 2 ≤ s.frameN →
    s.inCount = 0 → s.outCount = 0 → s.obufValid = false →
    ∃ r, HostRun.run es { lines := .txn (asmPush w) :: .txn asmPop :: rest, block := s } = .next r ∧
      r.block.busy = true ∧ r.block.outCount = 0 ∧ r.block.obufValid = false ∧
      r.block.inCount = (if es.any (·.ready) then 1 else 0) ∧
      r.lines = (if es.any (·.ready) then .txn asmPop :: rest else .txn (asmPush w) :: .txn asmPop :: rest))

/-- R186: HIST never needs more than `2W + 3 + SLACK` words, and so never more than the line buffer has. (That dead
entries are discarded at once is the model's choice, log entry 5.) -/
def Obligations.HistFitsLineBuffer : Prop :=
  ∀ s : State, Legal s → s.busy = true →
    s.hist.length ≤ 2 * s.width.toNat + 3 + s.params.slack ∧
    s.hist.length ≤ 2 * s.params.maxWidth.toNat + 3 + s.params.slack

/-- R38: two running jobs of the same frame whose accepted inputs agree offer and have delivered the same words at the
same OUT_COUNT, whatever their parameters, interrupt enables, HIST contents and schedules. -/
def Obligations.OutputDependsOnInputAlone : Prop :=
  ∀ s t : State, Legal s → Legal t → s.busy = true → t.busy = true → SameJobInput s t → s.outCount = t.outCount →
    s.delivered = t.delivered ∧ (s.obufValid = true → t.obufValid = true → s.obufWord = t.obufWord)

/-- R58, R55: within the window at REG_BASE every aligned byte address selects its register word and no other address
selects any. Alignment is that of the offset from REG_BASE. Where REG_BASE is a multiple of 4 that is bits [1:0] of the
byte address, as R55 says; for any other REG_BASE it is the model's choice (log entry 22, DESIGN CHOICE). -/
def Obligations.WindowSelectsRegisters : Prop :=
  ∀ (p : Config.Params), (∀ a, wordAddrOf p (platformAddr p a) = some a) ∧
    (∀ addr a, wordAddrOf p addr = some a → addr = platformAddr p a)

/-- R255 with R182, R187 and R189: weak fairness brings progress. A load of OBUF that is enabled happens after finitely
many steps, however the schedule delays it (no later than one edge past the schedule's end, where by log entry 17 the
engine acts; the bound counts the model's edges and is no cycle count), unless `rst` comes. And every weakly fair run
from a running job whose host offers and accepts, with whatever REG transactions, completes the job. -/
def Obligations.WeakFairnessBringsProgress : Prop :=
  (∀ s : State, Legal s → s.loadEnabled = true → (∀ c ∈ s.sched, c.rst = false) →
    ∃ k t, k ≤ s.sched.length + 1 ∧ Host.Core.run Sys2Proof.core k s = .next t ∧ t.obufValid = true) ∧
  (∀ (edges : Nat → Cycle) (states : Nat → State), IsRun edges states → WeaklyFair edges states →
    HostServes edges states → Legal (states 0) → (states 0).busy = true →
    ∃ n, (states n).done = true ∧ (states n).outCount.toNat = (states 0).frameN)
end

