-- ==== Sys2Proof/Laws/Decode.lean ====
section
/-! SUPPORT. The fields of a REG word, taken apart and put together (R71). -/

namespace Sys2Proof

@[simp] theorem regWe_regWord (we : Bool) (a : RegAddr) (d : Word) : regWe (regWord we a d) = we := by
  unfold regWe regWord
  rw [BitVec.getLsbD_append, if_neg (by omega), BitVec.getLsbD_append, if_neg (by omega)]
  simp

@[simp] theorem regAddr_regWord (we : Bool) (a : RegAddr) (d : Word) : regAddr (regWord we a d) = a := by
  unfold regAddr regWord
  ext i hi
  rw [BitVec.getElem_extractLsb', BitVec.getLsbD_append, if_neg (by omega), BitVec.getLsbD_append,
    if_pos (by omega), Nat.add_sub_cancel_left, BitVec.getLsbD_eq_getElem hi]

@[simp] theorem regData_regWord (we : Bool) (a : RegAddr) (d : Word) : regData (regWord we a d) = d := by
  unfold regData regWord
  ext i hi
  rw [BitVec.getElem_extractLsb', BitVec.getLsbD_append, if_pos (by omega), Nat.zero_add,
    BitVec.getLsbD_eq_getElem hi]

/-- A REG word is its three fields. -/
theorem regWord_fields (w : RegBits) : regWord (regWe w) (regAddr w) (regData w) = w := by
  apply BitVec.eq_of_getLsbD_eq
  intro i hi
  unfold regWord
  rw [BitVec.getLsbD_append]
  split
  next h => unfold regData; simp [h]
  next h =>
    rw [BitVec.getLsbD_append]
    split
    next h2 =>
      unfold regAddr
      rw [BitVec.getLsbD_extractLsb', decide_eq_true h2, Bool.true_and]
      congr 1; omega
    next h2 =>
      have : i = 38 := by omega
      subst this
      simp [regWe]

end Sys2Proof
end

