-- ==== Sys2Proof/Laws/State.lean ====
section
/-! SUPPORT. One lemma per field per update of the state, so that no proof unfolds a record update. -/

namespace Sys2Proof.Machine

section
variable (s : State)

/-! ### `answer` -/

@[simp] theorem State.answer_params (q : Word) : (s.answer q).params = s.params := rfl
@[simp] theorem State.answer_doneIe (q : Word) : (s.answer q).doneIe = s.doneIe := rfl
@[simp] theorem State.answer_errIe (q : Word) : (s.answer q).errIe = s.errIe := rfl
@[simp] theorem State.answer_busy (q : Word) : (s.answer q).busy = s.busy := rfl
@[simp] theorem State.answer_done (q : Word) : (s.answer q).done = s.done := rfl
@[simp] theorem State.answer_err (q : Word) : (s.answer q).err = s.err := rfl
@[simp] theorem State.answer_errcode (q : Word) : (s.answer q).errcode = s.errcode := rfl
@[simp] theorem State.answer_width (q : Word) : (s.answer q).width = s.width := rfl
@[simp] theorem State.answer_height (q : Word) : (s.answer q).height = s.height := rfl
@[simp] theorem State.answer_length (q : Word) : (s.answer q).length = s.length := rfl
@[simp] theorem State.answer_inCount (q : Word) : (s.answer q).inCount = s.inCount := rfl
@[simp] theorem State.answer_outCount (q : Word) : (s.answer q).outCount = s.outCount := rfl
@[simp] theorem State.answer_hist (q : Word) : (s.answer q).hist = s.hist := rfl
@[simp] theorem State.answer_obufValid (q : Word) : (s.answer q).obufValid = s.obufValid := rfl
@[simp] theorem State.answer_obufWord (q : Word) : (s.answer q).obufWord = s.obufWord := rfl
@[simp] theorem State.answer_inPix (q : Word) : (s.answer q).inPix = s.inPix := rfl
@[simp] theorem State.answer_sched (q : Word) : (s.answer q).sched = s.sched := rfl
@[simp] theorem State.answer_regQ (q : Word) : (s.answer q).regQ = some q := rfl
@[simp] theorem State.answer_taken (q : Word) : (s.answer q).taken = s.taken := rfl
@[simp] theorem State.answer_freeIx (q : Word) : (s.answer q).freeIx = s.freeIx := rfl

/-! ### `writeIe` -/

@[simp] theorem State.writeIe_params (d : Word) : (s.writeIe d).params = s.params := rfl
@[simp] theorem State.writeIe_doneIe (d : Word) : (s.writeIe d).doneIe = d.getLsbD 1 := rfl
@[simp] theorem State.writeIe_errIe (d : Word) : (s.writeIe d).errIe = d.getLsbD 2 := rfl
@[simp] theorem State.writeIe_busy (d : Word) : (s.writeIe d).busy = s.busy := rfl
@[simp] theorem State.writeIe_done (d : Word) : (s.writeIe d).done = s.done := rfl
@[simp] theorem State.writeIe_err (d : Word) : (s.writeIe d).err = s.err := rfl
@[simp] theorem State.writeIe_errcode (d : Word) : (s.writeIe d).errcode = s.errcode := rfl
@[simp] theorem State.writeIe_width (d : Word) : (s.writeIe d).width = s.width := rfl
@[simp] theorem State.writeIe_height (d : Word) : (s.writeIe d).height = s.height := rfl
@[simp] theorem State.writeIe_length (d : Word) : (s.writeIe d).length = s.length := rfl
@[simp] theorem State.writeIe_inCount (d : Word) : (s.writeIe d).inCount = s.inCount := rfl
@[simp] theorem State.writeIe_outCount (d : Word) : (s.writeIe d).outCount = s.outCount := rfl
@[simp] theorem State.writeIe_hist (d : Word) : (s.writeIe d).hist = s.hist := rfl
@[simp] theorem State.writeIe_obufValid (d : Word) : (s.writeIe d).obufValid = s.obufValid := rfl
@[simp] theorem State.writeIe_obufWord (d : Word) : (s.writeIe d).obufWord = s.obufWord := rfl
@[simp] theorem State.writeIe_inPix (d : Word) : (s.writeIe d).inPix = s.inPix := rfl
@[simp] theorem State.writeIe_sched (d : Word) : (s.writeIe d).sched = s.sched := rfl
@[simp] theorem State.writeIe_regQ (d : Word) : (s.writeIe d).regQ = s.regQ := rfl
@[simp] theorem State.writeIe_taken (d : Word) : (s.writeIe d).taken = s.taken := rfl
@[simp] theorem State.writeIe_freeIx (d : Word) : (s.writeIe d).freeIx = s.freeIx := rfl

/-! ### `clearDone` -/

@[simp] theorem State.clearDone_params : (s.clearDone).params = s.params := rfl
@[simp] theorem State.clearDone_doneIe : (s.clearDone).doneIe = s.doneIe := rfl
@[simp] theorem State.clearDone_errIe : (s.clearDone).errIe = s.errIe := rfl
@[simp] theorem State.clearDone_busy : (s.clearDone).busy = s.busy := rfl
@[simp] theorem State.clearDone_done : (s.clearDone).done = false := rfl
@[simp] theorem State.clearDone_err : (s.clearDone).err = s.err := rfl
@[simp] theorem State.clearDone_errcode : (s.clearDone).errcode = s.errcode := rfl
@[simp] theorem State.clearDone_width : (s.clearDone).width = s.width := rfl
@[simp] theorem State.clearDone_height : (s.clearDone).height = s.height := rfl
@[simp] theorem State.clearDone_length : (s.clearDone).length = s.length := rfl
@[simp] theorem State.clearDone_inCount : (s.clearDone).inCount = s.inCount := rfl
@[simp] theorem State.clearDone_outCount : (s.clearDone).outCount = s.outCount := rfl
@[simp] theorem State.clearDone_hist : (s.clearDone).hist = s.hist := rfl
@[simp] theorem State.clearDone_obufValid : (s.clearDone).obufValid = s.obufValid := rfl
@[simp] theorem State.clearDone_obufWord : (s.clearDone).obufWord = s.obufWord := rfl
@[simp] theorem State.clearDone_inPix : (s.clearDone).inPix = s.inPix := rfl
@[simp] theorem State.clearDone_sched : (s.clearDone).sched = s.sched := rfl
@[simp] theorem State.clearDone_regQ : (s.clearDone).regQ = s.regQ := rfl
@[simp] theorem State.clearDone_taken : (s.clearDone).taken = s.taken := rfl
@[simp] theorem State.clearDone_freeIx : (s.clearDone).freeIx = s.freeIx := rfl

/-! ### `clearErr` -/

@[simp] theorem State.clearErr_params : (s.clearErr).params = s.params := rfl
@[simp] theorem State.clearErr_doneIe : (s.clearErr).doneIe = s.doneIe := rfl
@[simp] theorem State.clearErr_errIe : (s.clearErr).errIe = s.errIe := rfl
@[simp] theorem State.clearErr_busy : (s.clearErr).busy = s.busy := rfl
@[simp] theorem State.clearErr_done : (s.clearErr).done = s.done := rfl
@[simp] theorem State.clearErr_err : (s.clearErr).err = false := rfl
@[simp] theorem State.clearErr_errcode : (s.clearErr).errcode = 0 := rfl
@[simp] theorem State.clearErr_width : (s.clearErr).width = s.width := rfl
@[simp] theorem State.clearErr_height : (s.clearErr).height = s.height := rfl
@[simp] theorem State.clearErr_length : (s.clearErr).length = s.length := rfl
@[simp] theorem State.clearErr_inCount : (s.clearErr).inCount = s.inCount := rfl
@[simp] theorem State.clearErr_outCount : (s.clearErr).outCount = s.outCount := rfl
@[simp] theorem State.clearErr_hist : (s.clearErr).hist = s.hist := rfl
@[simp] theorem State.clearErr_obufValid : (s.clearErr).obufValid = s.obufValid := rfl
@[simp] theorem State.clearErr_obufWord : (s.clearErr).obufWord = s.obufWord := rfl
@[simp] theorem State.clearErr_inPix : (s.clearErr).inPix = s.inPix := rfl
@[simp] theorem State.clearErr_sched : (s.clearErr).sched = s.sched := rfl
@[simp] theorem State.clearErr_regQ : (s.clearErr).regQ = s.regQ := rfl
@[simp] theorem State.clearErr_taken : (s.clearErr).taken = s.taken := rfl
@[simp] theorem State.clearErr_freeIx : (s.clearErr).freeIx = s.freeIx := rfl

/-! ### `clearForStart` -/

@[simp] theorem State.clearForStart_params : (s.clearForStart).params = s.params := rfl
@[simp] theorem State.clearForStart_doneIe : (s.clearForStart).doneIe = s.doneIe := rfl
@[simp] theorem State.clearForStart_errIe : (s.clearForStart).errIe = s.errIe := rfl
@[simp] theorem State.clearForStart_busy : (s.clearForStart).busy = s.busy := rfl
@[simp] theorem State.clearForStart_done : (s.clearForStart).done = false := rfl
@[simp] theorem State.clearForStart_err : (s.clearForStart).err = false := rfl
@[simp] theorem State.clearForStart_errcode : (s.clearForStart).errcode = 0 := rfl
@[simp] theorem State.clearForStart_width : (s.clearForStart).width = s.width := rfl
@[simp] theorem State.clearForStart_height : (s.clearForStart).height = s.height := rfl
@[simp] theorem State.clearForStart_length : (s.clearForStart).length = s.length := rfl
@[simp] theorem State.clearForStart_inCount : (s.clearForStart).inCount = 0 := rfl
@[simp] theorem State.clearForStart_outCount : (s.clearForStart).outCount = 0 := rfl
@[simp] theorem State.clearForStart_hist : (s.clearForStart).hist = s.hist := rfl
@[simp] theorem State.clearForStart_obufValid : (s.clearForStart).obufValid = s.obufValid := rfl
@[simp] theorem State.clearForStart_obufWord : (s.clearForStart).obufWord = s.obufWord := rfl
@[simp] theorem State.clearForStart_inPix : (s.clearForStart).inPix = s.inPix := rfl
@[simp] theorem State.clearForStart_sched : (s.clearForStart).sched = s.sched := rfl
@[simp] theorem State.clearForStart_regQ : (s.clearForStart).regQ = s.regQ := rfl
@[simp] theorem State.clearForStart_taken : (s.clearForStart).taken = s.taken := rfl
@[simp] theorem State.clearForStart_freeIx : (s.clearForStart).freeIx = s.freeIx := rfl

/-! ### `acceptJob` -/

@[simp] theorem State.acceptJob_params : (s.acceptJob).params = s.params := rfl
@[simp] theorem State.acceptJob_doneIe : (s.acceptJob).doneIe = s.doneIe := rfl
@[simp] theorem State.acceptJob_errIe : (s.acceptJob).errIe = s.errIe := rfl
@[simp] theorem State.acceptJob_busy : (s.acceptJob).busy = true := rfl
@[simp] theorem State.acceptJob_done : (s.acceptJob).done = s.done := rfl
@[simp] theorem State.acceptJob_err : (s.acceptJob).err = s.err := rfl
@[simp] theorem State.acceptJob_errcode : (s.acceptJob).errcode = s.errcode := rfl
@[simp] theorem State.acceptJob_width : (s.acceptJob).width = s.width := rfl
@[simp] theorem State.acceptJob_height : (s.acceptJob).height = s.height := rfl
@[simp] theorem State.acceptJob_length : (s.acceptJob).length = s.length := rfl
@[simp] theorem State.acceptJob_inCount : (s.acceptJob).inCount = s.inCount := rfl
@[simp] theorem State.acceptJob_outCount : (s.acceptJob).outCount = s.outCount := rfl
@[simp] theorem State.acceptJob_hist : (s.acceptJob).hist = [] := rfl
@[simp] theorem State.acceptJob_obufValid : (s.acceptJob).obufValid = false := rfl
@[simp] theorem State.acceptJob_obufWord : (s.acceptJob).obufWord = s.obufWord := rfl
@[simp] theorem State.acceptJob_inPix : (s.acceptJob).inPix = [] := rfl
@[simp] theorem State.acceptJob_sched : (s.acceptJob).sched = s.sched := rfl
@[simp] theorem State.acceptJob_regQ : (s.acceptJob).regQ = s.regQ := rfl
@[simp] theorem State.acceptJob_taken : (s.acceptJob).taken = s.taken := rfl
@[simp] theorem State.acceptJob_freeIx : (s.acceptJob).freeIx = s.freeIx := rfl

/-! ### `raiseInvalidBitmap` -/

@[simp] theorem State.raiseInvalidBitmap_params (c : BitVec 4) : (s.raiseInvalidBitmap c).params = s.params := rfl
@[simp] theorem State.raiseInvalidBitmap_doneIe (c : BitVec 4) : (s.raiseInvalidBitmap c).doneIe = s.doneIe := rfl
@[simp] theorem State.raiseInvalidBitmap_errIe (c : BitVec 4) : (s.raiseInvalidBitmap c).errIe = s.errIe := rfl
@[simp] theorem State.raiseInvalidBitmap_busy (c : BitVec 4) : (s.raiseInvalidBitmap c).busy = s.busy := rfl
@[simp] theorem State.raiseInvalidBitmap_done (c : BitVec 4) : (s.raiseInvalidBitmap c).done = s.done := rfl
@[simp] theorem State.raiseInvalidBitmap_err (c : BitVec 4) : (s.raiseInvalidBitmap c).err = true := rfl
@[simp] theorem State.raiseInvalidBitmap_errcode (c : BitVec 4) : (s.raiseInvalidBitmap c).errcode = c := rfl
@[simp] theorem State.raiseInvalidBitmap_width (c : BitVec 4) : (s.raiseInvalidBitmap c).width = s.width := rfl
@[simp] theorem State.raiseInvalidBitmap_height (c : BitVec 4) : (s.raiseInvalidBitmap c).height = s.height := rfl
@[simp] theorem State.raiseInvalidBitmap_length (c : BitVec 4) : (s.raiseInvalidBitmap c).length = s.length := rfl
@[simp] theorem State.raiseInvalidBitmap_inCount (c : BitVec 4) : (s.raiseInvalidBitmap c).inCount = s.inCount := rfl
@[simp] theorem State.raiseInvalidBitmap_outCount (c : BitVec 4) : (s.raiseInvalidBitmap c).outCount = s.outCount := rfl
@[simp] theorem State.raiseInvalidBitmap_hist (c : BitVec 4) : (s.raiseInvalidBitmap c).hist = s.hist := rfl
@[simp] theorem State.raiseInvalidBitmap_obufValid (c : BitVec 4) : (s.raiseInvalidBitmap c).obufValid = s.obufValid := rfl
@[simp] theorem State.raiseInvalidBitmap_obufWord (c : BitVec 4) : (s.raiseInvalidBitmap c).obufWord = s.obufWord := rfl
@[simp] theorem State.raiseInvalidBitmap_inPix (c : BitVec 4) : (s.raiseInvalidBitmap c).inPix = s.inPix := rfl
@[simp] theorem State.raiseInvalidBitmap_sched (c : BitVec 4) : (s.raiseInvalidBitmap c).sched = s.sched := rfl
@[simp] theorem State.raiseInvalidBitmap_regQ (c : BitVec 4) : (s.raiseInvalidBitmap c).regQ = s.regQ := rfl
@[simp] theorem State.raiseInvalidBitmap_taken (c : BitVec 4) : (s.raiseInvalidBitmap c).taken = s.taken := rfl
@[simp] theorem State.raiseInvalidBitmap_freeIx (c : BitVec 4) : (s.raiseInvalidBitmap c).freeIx = s.freeIx := rfl

/-! ### `recordInput` -/

@[simp] theorem State.recordInput_params (w sh : Word) : (s.recordInput w sh).params = s.params := rfl
@[simp] theorem State.recordInput_doneIe (w sh : Word) : (s.recordInput w sh).doneIe = s.doneIe := rfl
@[simp] theorem State.recordInput_errIe (w sh : Word) : (s.recordInput w sh).errIe = s.errIe := rfl
@[simp] theorem State.recordInput_busy (w sh : Word) : (s.recordInput w sh).busy = s.busy := rfl
@[simp] theorem State.recordInput_done (w sh : Word) : (s.recordInput w sh).done = s.done := rfl
@[simp] theorem State.recordInput_err (w sh : Word) : (s.recordInput w sh).err = s.err := rfl
@[simp] theorem State.recordInput_errcode (w sh : Word) : (s.recordInput w sh).errcode = s.errcode := rfl
@[simp] theorem State.recordInput_width (w sh : Word) : (s.recordInput w sh).width = s.width := rfl
@[simp] theorem State.recordInput_height (w sh : Word) : (s.recordInput w sh).height = s.height := rfl
@[simp] theorem State.recordInput_length (w sh : Word) : (s.recordInput w sh).length = s.length := rfl
@[simp] theorem State.recordInput_inCount (w sh : Word) : (s.recordInput w sh).inCount = s.inCount + 1 := rfl
@[simp] theorem State.recordInput_outCount (w sh : Word) : (s.recordInput w sh).outCount = s.outCount := rfl
@[simp] theorem State.recordInput_hist (w sh : Word) : (s.recordInput w sh).hist = Memory.write s.hist s.inCount.toNat sh := rfl
@[simp] theorem State.recordInput_obufValid (w sh : Word) : (s.recordInput w sh).obufValid = s.obufValid := rfl
@[simp] theorem State.recordInput_obufWord (w sh : Word) : (s.recordInput w sh).obufWord = s.obufWord := rfl
@[simp] theorem State.recordInput_inPix (w sh : Word) : (s.recordInput w sh).inPix = Memory.write s.inPix s.inCount.toNat w := rfl
@[simp] theorem State.recordInput_sched (w sh : Word) : (s.recordInput w sh).sched = s.sched := rfl
@[simp] theorem State.recordInput_regQ (w sh : Word) : (s.recordInput w sh).regQ = s.regQ := rfl
@[simp] theorem State.recordInput_taken (w sh : Word) : (s.recordInput w sh).taken = s.taken := rfl
@[simp] theorem State.recordInput_freeIx (w sh : Word) : (s.recordInput w sh).freeIx = s.freeIx := rfl

/-! ### `loadObuf` -/

@[simp] theorem State.loadObuf_params (w : Word) : (s.loadObuf w).params = s.params := rfl
@[simp] theorem State.loadObuf_doneIe (w : Word) : (s.loadObuf w).doneIe = s.doneIe := rfl
@[simp] theorem State.loadObuf_errIe (w : Word) : (s.loadObuf w).errIe = s.errIe := rfl
@[simp] theorem State.loadObuf_busy (w : Word) : (s.loadObuf w).busy = s.busy := rfl
@[simp] theorem State.loadObuf_done (w : Word) : (s.loadObuf w).done = s.done := rfl
@[simp] theorem State.loadObuf_err (w : Word) : (s.loadObuf w).err = s.err := rfl
@[simp] theorem State.loadObuf_errcode (w : Word) : (s.loadObuf w).errcode = s.errcode := rfl
@[simp] theorem State.loadObuf_width (w : Word) : (s.loadObuf w).width = s.width := rfl
@[simp] theorem State.loadObuf_height (w : Word) : (s.loadObuf w).height = s.height := rfl
@[simp] theorem State.loadObuf_length (w : Word) : (s.loadObuf w).length = s.length := rfl
@[simp] theorem State.loadObuf_inCount (w : Word) : (s.loadObuf w).inCount = s.inCount := rfl
@[simp] theorem State.loadObuf_outCount (w : Word) : (s.loadObuf w).outCount = s.outCount := rfl
@[simp] theorem State.loadObuf_hist (w : Word) : (s.loadObuf w).hist = s.hist := rfl
@[simp] theorem State.loadObuf_obufValid (w : Word) : (s.loadObuf w).obufValid = true := rfl
@[simp] theorem State.loadObuf_obufWord (w : Word) : (s.loadObuf w).obufWord = w := rfl
@[simp] theorem State.loadObuf_inPix (w : Word) : (s.loadObuf w).inPix = s.inPix := rfl
@[simp] theorem State.loadObuf_sched (w : Word) : (s.loadObuf w).sched = s.sched := rfl
@[simp] theorem State.loadObuf_regQ (w : Word) : (s.loadObuf w).regQ = s.regQ := rfl
@[simp] theorem State.loadObuf_taken (w : Word) : (s.loadObuf w).taken = s.taken := rfl
@[simp] theorem State.loadObuf_freeIx (w : Word) : (s.loadObuf w).freeIx = s.freeIx := rfl

/-! ### `deliver` -/

@[simp] theorem State.deliver_params : (s.deliver).params = s.params := rfl
@[simp] theorem State.deliver_doneIe : (s.deliver).doneIe = s.doneIe := rfl
@[simp] theorem State.deliver_errIe : (s.deliver).errIe = s.errIe := rfl
@[simp] theorem State.deliver_busy : (s.deliver).busy = s.busy := rfl
@[simp] theorem State.deliver_done : (s.deliver).done = s.done := rfl
@[simp] theorem State.deliver_err : (s.deliver).err = s.err := rfl
@[simp] theorem State.deliver_errcode : (s.deliver).errcode = s.errcode := rfl
@[simp] theorem State.deliver_width : (s.deliver).width = s.width := rfl
@[simp] theorem State.deliver_height : (s.deliver).height = s.height := rfl
@[simp] theorem State.deliver_length : (s.deliver).length = s.length := rfl
@[simp] theorem State.deliver_inCount : (s.deliver).inCount = s.inCount := rfl
@[simp] theorem State.deliver_outCount : (s.deliver).outCount = s.outCount + 1 := rfl
@[simp] theorem State.deliver_hist : (s.deliver).hist = Memory.dropBelow s.hist ((s.outCount + 1).toNat - (s.width.toNat + 1)) := rfl
@[simp] theorem State.deliver_obufValid : (s.deliver).obufValid = false := rfl
@[simp] theorem State.deliver_obufWord : (s.deliver).obufWord = s.obufWord := rfl
@[simp] theorem State.deliver_inPix : (s.deliver).inPix = s.inPix := rfl
@[simp] theorem State.deliver_sched : (s.deliver).sched = s.sched := rfl
@[simp] theorem State.deliver_regQ : (s.deliver).regQ = s.regQ := rfl
@[simp] theorem State.deliver_taken : (s.deliver).taken = s.obufWord :: s.taken := rfl
@[simp] theorem State.deliver_freeIx : (s.deliver).freeIx = s.freeIx := rfl

/-! ### `complete` -/

@[simp] theorem State.complete_params : (s.complete).params = s.params := rfl
@[simp] theorem State.complete_doneIe : (s.complete).doneIe = s.doneIe := rfl
@[simp] theorem State.complete_errIe : (s.complete).errIe = s.errIe := rfl
@[simp] theorem State.complete_busy : (s.complete).busy = false := rfl
@[simp] theorem State.complete_done : (s.complete).done = true := rfl
@[simp] theorem State.complete_err : (s.complete).err = s.err := rfl
@[simp] theorem State.complete_errcode : (s.complete).errcode = s.errcode := rfl
@[simp] theorem State.complete_width : (s.complete).width = s.width := rfl
@[simp] theorem State.complete_height : (s.complete).height = s.height := rfl
@[simp] theorem State.complete_length : (s.complete).length = s.length := rfl
@[simp] theorem State.complete_inCount : (s.complete).inCount = s.inCount := rfl
@[simp] theorem State.complete_outCount : (s.complete).outCount = s.outCount := rfl
@[simp] theorem State.complete_hist : (s.complete).hist = s.hist := rfl
@[simp] theorem State.complete_obufValid : (s.complete).obufValid = false := rfl
@[simp] theorem State.complete_obufWord : (s.complete).obufWord = s.obufWord := rfl
@[simp] theorem State.complete_inPix : (s.complete).inPix = s.inPix := rfl
@[simp] theorem State.complete_sched : (s.complete).sched = s.sched := rfl
@[simp] theorem State.complete_regQ : (s.complete).regQ = s.regQ := rfl
@[simp] theorem State.complete_taken : (s.complete).taken = s.taken := rfl
@[simp] theorem State.complete_freeIx : (s.complete).freeIx = s.freeIx := rfl

/-! ### `resetBlock` -/

@[simp] theorem State.resetBlock_params : (s.resetBlock).params = s.params := rfl
@[simp] theorem State.resetBlock_doneIe : (s.resetBlock).doneIe = false := rfl
@[simp] theorem State.resetBlock_errIe : (s.resetBlock).errIe = false := rfl
@[simp] theorem State.resetBlock_busy : (s.resetBlock).busy = false := rfl
@[simp] theorem State.resetBlock_done : (s.resetBlock).done = false := rfl
@[simp] theorem State.resetBlock_err : (s.resetBlock).err = false := rfl
@[simp] theorem State.resetBlock_errcode : (s.resetBlock).errcode = 0 := rfl
@[simp] theorem State.resetBlock_width : (s.resetBlock).width = 0 := rfl
@[simp] theorem State.resetBlock_height : (s.resetBlock).height = 0 := rfl
@[simp] theorem State.resetBlock_length : (s.resetBlock).length = 0 := rfl
@[simp] theorem State.resetBlock_inCount : (s.resetBlock).inCount = 0 := rfl
@[simp] theorem State.resetBlock_outCount : (s.resetBlock).outCount = 0 := rfl
@[simp] theorem State.resetBlock_hist : (s.resetBlock).hist = [] := rfl
@[simp] theorem State.resetBlock_obufValid : (s.resetBlock).obufValid = false := rfl
@[simp] theorem State.resetBlock_obufWord : (s.resetBlock).obufWord = 0 := rfl
@[simp] theorem State.resetBlock_inPix : (s.resetBlock).inPix = [] := rfl
@[simp] theorem State.resetBlock_sched : (s.resetBlock).sched = s.sched := rfl
@[simp] theorem State.resetBlock_regQ : (s.resetBlock).regQ = s.regQ := rfl
@[simp] theorem State.resetBlock_taken : (s.resetBlock).taken = s.taken := rfl
@[simp] theorem State.resetBlock_freeIx : (s.resetBlock).freeIx = s.freeIx := rfl

/-! ### `beginEdge` -/

@[simp] theorem State.beginEdge_params : (s.beginEdge).params = s.params := rfl
@[simp] theorem State.beginEdge_doneIe : (s.beginEdge).doneIe = s.doneIe := rfl
@[simp] theorem State.beginEdge_errIe : (s.beginEdge).errIe = s.errIe := rfl
@[simp] theorem State.beginEdge_busy : (s.beginEdge).busy = s.busy := rfl
@[simp] theorem State.beginEdge_done : (s.beginEdge).done = s.done := rfl
@[simp] theorem State.beginEdge_err : (s.beginEdge).err = s.err := rfl
@[simp] theorem State.beginEdge_errcode : (s.beginEdge).errcode = s.errcode := rfl
@[simp] theorem State.beginEdge_width : (s.beginEdge).width = s.width := rfl
@[simp] theorem State.beginEdge_height : (s.beginEdge).height = s.height := rfl
@[simp] theorem State.beginEdge_length : (s.beginEdge).length = s.length := rfl
@[simp] theorem State.beginEdge_inCount : (s.beginEdge).inCount = s.inCount := rfl
@[simp] theorem State.beginEdge_outCount : (s.beginEdge).outCount = s.outCount := rfl
@[simp] theorem State.beginEdge_hist : (s.beginEdge).hist = s.hist := rfl
@[simp] theorem State.beginEdge_obufValid : (s.beginEdge).obufValid = s.obufValid := rfl
@[simp] theorem State.beginEdge_obufWord : (s.beginEdge).obufWord = s.obufWord := rfl
@[simp] theorem State.beginEdge_inPix : (s.beginEdge).inPix = s.inPix := rfl
@[simp] theorem State.beginEdge_sched : (s.beginEdge).sched = s.sched.tail := rfl
@[simp] theorem State.beginEdge_regQ : (s.beginEdge).regQ = none := rfl
@[simp] theorem State.beginEdge_taken : (s.beginEdge).taken = s.taken := rfl
@[simp] theorem State.beginEdge_freeIx : (s.beginEdge).freeIx = s.freeIx + 1 := rfl

/-! ### `present` -/

@[simp] theorem State.present_params (c : Cycle) : (s.present c).params = s.params := rfl
@[simp] theorem State.present_doneIe (c : Cycle) : (s.present c).doneIe = s.doneIe := rfl
@[simp] theorem State.present_errIe (c : Cycle) : (s.present c).errIe = s.errIe := rfl
@[simp] theorem State.present_busy (c : Cycle) : (s.present c).busy = s.busy := rfl
@[simp] theorem State.present_done (c : Cycle) : (s.present c).done = s.done := rfl
@[simp] theorem State.present_err (c : Cycle) : (s.present c).err = s.err := rfl
@[simp] theorem State.present_errcode (c : Cycle) : (s.present c).errcode = s.errcode := rfl
@[simp] theorem State.present_width (c : Cycle) : (s.present c).width = s.width := rfl
@[simp] theorem State.present_height (c : Cycle) : (s.present c).height = s.height := rfl
@[simp] theorem State.present_length (c : Cycle) : (s.present c).length = s.length := rfl
@[simp] theorem State.present_inCount (c : Cycle) : (s.present c).inCount = s.inCount := rfl
@[simp] theorem State.present_outCount (c : Cycle) : (s.present c).outCount = s.outCount := rfl
@[simp] theorem State.present_hist (c : Cycle) : (s.present c).hist = s.hist := rfl
@[simp] theorem State.present_obufValid (c : Cycle) : (s.present c).obufValid = s.obufValid := rfl
@[simp] theorem State.present_obufWord (c : Cycle) : (s.present c).obufWord = s.obufWord := rfl
@[simp] theorem State.present_inPix (c : Cycle) : (s.present c).inPix = s.inPix := rfl
@[simp] theorem State.present_sched (c : Cycle) : (s.present c).sched = c :: s.sched := rfl
@[simp] theorem State.present_regQ (c : Cycle) : (s.present c).regQ = s.regQ := rfl
@[simp] theorem State.present_taken (c : Cycle) : (s.present c).taken = s.taken := rfl
@[simp] theorem State.present_freeIx (c : Cycle) : (s.present c).freeIx = s.freeIx := rfl

/-! ### `writeWidth` -/

@[simp] theorem State.writeWidth_params (d : Word) : (s.writeWidth d).params = s.params := by unfold State.writeWidth; split <;> rfl
@[simp] theorem State.writeWidth_doneIe (d : Word) : (s.writeWidth d).doneIe = s.doneIe := by unfold State.writeWidth; split <;> rfl
@[simp] theorem State.writeWidth_errIe (d : Word) : (s.writeWidth d).errIe = s.errIe := by unfold State.writeWidth; split <;> rfl
@[simp] theorem State.writeWidth_busy (d : Word) : (s.writeWidth d).busy = s.busy := by unfold State.writeWidth; split <;> rfl
@[simp] theorem State.writeWidth_done (d : Word) : (s.writeWidth d).done = s.done := by unfold State.writeWidth; split <;> rfl
@[simp] theorem State.writeWidth_err (d : Word) : (s.writeWidth d).err = s.err := by unfold State.writeWidth; split <;> rfl
@[simp] theorem State.writeWidth_errcode (d : Word) : (s.writeWidth d).errcode = s.errcode := by unfold State.writeWidth; split <;> rfl
@[simp] theorem State.writeWidth_width (d : Word) :
    (s.writeWidth d).width = if s.busy = true then s.width else dimField d := by
  unfold State.writeWidth; split <;> rfl
@[simp] theorem State.writeWidth_height (d : Word) : (s.writeWidth d).height = s.height := by unfold State.writeWidth; split <;> rfl
@[simp] theorem State.writeWidth_length (d : Word) : (s.writeWidth d).length = s.length := by unfold State.writeWidth; split <;> rfl
@[simp] theorem State.writeWidth_inCount (d : Word) : (s.writeWidth d).inCount = s.inCount := by unfold State.writeWidth; split <;> rfl
@[simp] theorem State.writeWidth_outCount (d : Word) : (s.writeWidth d).outCount = s.outCount := by unfold State.writeWidth; split <;> rfl
@[simp] theorem State.writeWidth_hist (d : Word) : (s.writeWidth d).hist = s.hist := by unfold State.writeWidth; split <;> rfl
@[simp] theorem State.writeWidth_obufValid (d : Word) : (s.writeWidth d).obufValid = s.obufValid := by unfold State.writeWidth; split <;> rfl
@[simp] theorem State.writeWidth_obufWord (d : Word) : (s.writeWidth d).obufWord = s.obufWord := by unfold State.writeWidth; split <;> rfl
@[simp] theorem State.writeWidth_inPix (d : Word) : (s.writeWidth d).inPix = s.inPix := by unfold State.writeWidth; split <;> rfl
@[simp] theorem State.writeWidth_sched (d : Word) : (s.writeWidth d).sched = s.sched := by unfold State.writeWidth; split <;> rfl
@[simp] theorem State.writeWidth_regQ (d : Word) : (s.writeWidth d).regQ = s.regQ := by unfold State.writeWidth; split <;> rfl
@[simp] theorem State.writeWidth_taken (d : Word) : (s.writeWidth d).taken = s.taken := by unfold State.writeWidth; split <;> rfl
@[simp] theorem State.writeWidth_freeIx (d : Word) : (s.writeWidth d).freeIx = s.freeIx := by unfold State.writeWidth; split <;> rfl

/-! ### `writeHeight` -/

@[simp] theorem State.writeHeight_params (d : Word) : (s.writeHeight d).params = s.params := by unfold State.writeHeight; split <;> rfl
@[simp] theorem State.writeHeight_doneIe (d : Word) : (s.writeHeight d).doneIe = s.doneIe := by unfold State.writeHeight; split <;> rfl
@[simp] theorem State.writeHeight_errIe (d : Word) : (s.writeHeight d).errIe = s.errIe := by unfold State.writeHeight; split <;> rfl
@[simp] theorem State.writeHeight_busy (d : Word) : (s.writeHeight d).busy = s.busy := by unfold State.writeHeight; split <;> rfl
@[simp] theorem State.writeHeight_done (d : Word) : (s.writeHeight d).done = s.done := by unfold State.writeHeight; split <;> rfl
@[simp] theorem State.writeHeight_err (d : Word) : (s.writeHeight d).err = s.err := by unfold State.writeHeight; split <;> rfl
@[simp] theorem State.writeHeight_errcode (d : Word) : (s.writeHeight d).errcode = s.errcode := by unfold State.writeHeight; split <;> rfl
@[simp] theorem State.writeHeight_width (d : Word) : (s.writeHeight d).width = s.width := by unfold State.writeHeight; split <;> rfl
@[simp] theorem State.writeHeight_height (d : Word) :
    (s.writeHeight d).height = if s.busy = true then s.height else dimField d := by
  unfold State.writeHeight; split <;> rfl
@[simp] theorem State.writeHeight_length (d : Word) : (s.writeHeight d).length = s.length := by unfold State.writeHeight; split <;> rfl
@[simp] theorem State.writeHeight_inCount (d : Word) : (s.writeHeight d).inCount = s.inCount := by unfold State.writeHeight; split <;> rfl
@[simp] theorem State.writeHeight_outCount (d : Word) : (s.writeHeight d).outCount = s.outCount := by unfold State.writeHeight; split <;> rfl
@[simp] theorem State.writeHeight_hist (d : Word) : (s.writeHeight d).hist = s.hist := by unfold State.writeHeight; split <;> rfl
@[simp] theorem State.writeHeight_obufValid (d : Word) : (s.writeHeight d).obufValid = s.obufValid := by unfold State.writeHeight; split <;> rfl
@[simp] theorem State.writeHeight_obufWord (d : Word) : (s.writeHeight d).obufWord = s.obufWord := by unfold State.writeHeight; split <;> rfl
@[simp] theorem State.writeHeight_inPix (d : Word) : (s.writeHeight d).inPix = s.inPix := by unfold State.writeHeight; split <;> rfl
@[simp] theorem State.writeHeight_sched (d : Word) : (s.writeHeight d).sched = s.sched := by unfold State.writeHeight; split <;> rfl
@[simp] theorem State.writeHeight_regQ (d : Word) : (s.writeHeight d).regQ = s.regQ := by unfold State.writeHeight; split <;> rfl
@[simp] theorem State.writeHeight_taken (d : Word) : (s.writeHeight d).taken = s.taken := by unfold State.writeHeight; split <;> rfl
@[simp] theorem State.writeHeight_freeIx (d : Word) : (s.writeHeight d).freeIx = s.freeIx := by unfold State.writeHeight; split <;> rfl

/-! ### `writeLength` -/

@[simp] theorem State.writeLength_params (d : Word) : (s.writeLength d).params = s.params := by unfold State.writeLength; split <;> rfl
@[simp] theorem State.writeLength_doneIe (d : Word) : (s.writeLength d).doneIe = s.doneIe := by unfold State.writeLength; split <;> rfl
@[simp] theorem State.writeLength_errIe (d : Word) : (s.writeLength d).errIe = s.errIe := by unfold State.writeLength; split <;> rfl
@[simp] theorem State.writeLength_busy (d : Word) : (s.writeLength d).busy = s.busy := by unfold State.writeLength; split <;> rfl
@[simp] theorem State.writeLength_done (d : Word) : (s.writeLength d).done = s.done := by unfold State.writeLength; split <;> rfl
@[simp] theorem State.writeLength_err (d : Word) : (s.writeLength d).err = s.err := by unfold State.writeLength; split <;> rfl
@[simp] theorem State.writeLength_errcode (d : Word) : (s.writeLength d).errcode = s.errcode := by unfold State.writeLength; split <;> rfl
@[simp] theorem State.writeLength_width (d : Word) : (s.writeLength d).width = s.width := by unfold State.writeLength; split <;> rfl
@[simp] theorem State.writeLength_height (d : Word) : (s.writeLength d).height = s.height := by unfold State.writeLength; split <;> rfl
@[simp] theorem State.writeLength_length (d : Word) :
    (s.writeLength d).length = if s.busy = true then s.length else d := by
  unfold State.writeLength; split <;> rfl
@[simp] theorem State.writeLength_inCount (d : Word) : (s.writeLength d).inCount = s.inCount := by unfold State.writeLength; split <;> rfl
@[simp] theorem State.writeLength_outCount (d : Word) : (s.writeLength d).outCount = s.outCount := by unfold State.writeLength; split <;> rfl
@[simp] theorem State.writeLength_hist (d : Word) : (s.writeLength d).hist = s.hist := by unfold State.writeLength; split <;> rfl
@[simp] theorem State.writeLength_obufValid (d : Word) : (s.writeLength d).obufValid = s.obufValid := by unfold State.writeLength; split <;> rfl
@[simp] theorem State.writeLength_obufWord (d : Word) : (s.writeLength d).obufWord = s.obufWord := by unfold State.writeLength; split <;> rfl
@[simp] theorem State.writeLength_inPix (d : Word) : (s.writeLength d).inPix = s.inPix := by unfold State.writeLength; split <;> rfl
@[simp] theorem State.writeLength_sched (d : Word) : (s.writeLength d).sched = s.sched := by unfold State.writeLength; split <;> rfl
@[simp] theorem State.writeLength_regQ (d : Word) : (s.writeLength d).regQ = s.regQ := by unfold State.writeLength; split <;> rfl
@[simp] theorem State.writeLength_taken (d : Word) : (s.writeLength d).taken = s.taken := by unfold State.writeLength; split <;> rfl
@[simp] theorem State.writeLength_freeIx (d : Word) : (s.writeLength d).freeIx = s.freeIx := by unfold State.writeLength; split <;> rfl

/-! ### `clearStatus` -/

@[simp] theorem State.clearStatus_params (d : Word) : (s.clearStatus d).params = s.params := by
  unfold State.clearStatus; cases d.getLsbD 1 <;> cases d.getLsbD 2 <;> rfl
@[simp] theorem State.clearStatus_doneIe (d : Word) : (s.clearStatus d).doneIe = s.doneIe := by
  unfold State.clearStatus; cases d.getLsbD 1 <;> cases d.getLsbD 2 <;> rfl
@[simp] theorem State.clearStatus_errIe (d : Word) : (s.clearStatus d).errIe = s.errIe := by
  unfold State.clearStatus; cases d.getLsbD 1 <;> cases d.getLsbD 2 <;> rfl
@[simp] theorem State.clearStatus_busy (d : Word) : (s.clearStatus d).busy = s.busy := by
  unfold State.clearStatus; cases d.getLsbD 1 <;> cases d.getLsbD 2 <;> rfl
@[simp] theorem State.clearStatus_done (d : Word) :
    (s.clearStatus d).done = (s.done && !d.getLsbD 1) := by
  unfold State.clearStatus; cases d.getLsbD 1 <;> cases d.getLsbD 2 <;> simp
@[simp] theorem State.clearStatus_err (d : Word) :
    (s.clearStatus d).err = (s.err && !d.getLsbD 2) := by
  unfold State.clearStatus; cases d.getLsbD 1 <;> cases d.getLsbD 2 <;> simp
@[simp] theorem State.clearStatus_errcode (d : Word) :
    (s.clearStatus d).errcode = if d.getLsbD 2 = true then 0 else s.errcode := by
  unfold State.clearStatus; cases d.getLsbD 1 <;> cases d.getLsbD 2 <;> simp
@[simp] theorem State.clearStatus_width (d : Word) : (s.clearStatus d).width = s.width := by
  unfold State.clearStatus; cases d.getLsbD 1 <;> cases d.getLsbD 2 <;> rfl
@[simp] theorem State.clearStatus_height (d : Word) : (s.clearStatus d).height = s.height := by
  unfold State.clearStatus; cases d.getLsbD 1 <;> cases d.getLsbD 2 <;> rfl
@[simp] theorem State.clearStatus_length (d : Word) : (s.clearStatus d).length = s.length := by
  unfold State.clearStatus; cases d.getLsbD 1 <;> cases d.getLsbD 2 <;> rfl
@[simp] theorem State.clearStatus_inCount (d : Word) : (s.clearStatus d).inCount = s.inCount := by
  unfold State.clearStatus; cases d.getLsbD 1 <;> cases d.getLsbD 2 <;> rfl
@[simp] theorem State.clearStatus_outCount (d : Word) : (s.clearStatus d).outCount = s.outCount := by
  unfold State.clearStatus; cases d.getLsbD 1 <;> cases d.getLsbD 2 <;> rfl
@[simp] theorem State.clearStatus_hist (d : Word) : (s.clearStatus d).hist = s.hist := by
  unfold State.clearStatus; cases d.getLsbD 1 <;> cases d.getLsbD 2 <;> rfl
@[simp] theorem State.clearStatus_obufValid (d : Word) : (s.clearStatus d).obufValid = s.obufValid := by
  unfold State.clearStatus; cases d.getLsbD 1 <;> cases d.getLsbD 2 <;> rfl
@[simp] theorem State.clearStatus_obufWord (d : Word) : (s.clearStatus d).obufWord = s.obufWord := by
  unfold State.clearStatus; cases d.getLsbD 1 <;> cases d.getLsbD 2 <;> rfl
@[simp] theorem State.clearStatus_inPix (d : Word) : (s.clearStatus d).inPix = s.inPix := by
  unfold State.clearStatus; cases d.getLsbD 1 <;> cases d.getLsbD 2 <;> rfl
@[simp] theorem State.clearStatus_sched (d : Word) : (s.clearStatus d).sched = s.sched := by
  unfold State.clearStatus; cases d.getLsbD 1 <;> cases d.getLsbD 2 <;> rfl
@[simp] theorem State.clearStatus_regQ (d : Word) : (s.clearStatus d).regQ = s.regQ := by
  unfold State.clearStatus; cases d.getLsbD 1 <;> cases d.getLsbD 2 <;> rfl
@[simp] theorem State.clearStatus_taken (d : Word) : (s.clearStatus d).taken = s.taken := by
  unfold State.clearStatus; cases d.getLsbD 1 <;> cases d.getLsbD 2 <;> rfl
@[simp] theorem State.clearStatus_freeIx (d : Word) : (s.clearStatus d).freeIx = s.freeIx := by
  unfold State.clearStatus; cases d.getLsbD 1 <;> cases d.getLsbD 2 <;> rfl

end

end Sys2Proof.Machine
end

