-- ==== Sys2Proof/Laws/Guards.lean ====
section
/-! SUPPORT. The constants by value, and the frame terms and stream guards after the updates that do not touch them. -/

namespace Sys2Proof.Machine

@[simp] theorem channels_eq : channels = 4 := rfl

theorem wordBytes_eq (w : Word) : wordBytes w = [lane w 0, lane w 1, lane w 2, lane w 3] := rfl

section
variable (s : State)

@[simp] theorem State.beginEdge_frameN : (s.beginEdge).frameN = s.frameN := rfl
@[simp] theorem State.beginEdge_look : (s.beginEdge).look = s.look := rfl
@[simp] theorem State.beginEdge_inAccept : (s.beginEdge).inAccept = s.inAccept := rfl
@[simp] theorem State.beginEdge_outOffer : (s.beginEdge).outOffer = s.outOffer := rfl
@[simp] theorem State.beginEdge_loadEnabled : (s.beginEdge).loadEnabled = s.loadEnabled := rfl
@[simp] theorem State.beginEdge_input : (s.beginEdge).input = s.input := rfl
@[simp] theorem State.beginEdge_delivered : (s.beginEdge).delivered = s.delivered := rfl
@[simp] theorem State.present_frameN (c : Cycle) : (s.present c).frameN = s.frameN := rfl
@[simp] theorem State.present_look (c : Cycle) : (s.present c).look = s.look := rfl
@[simp] theorem State.present_inAccept (c : Cycle) : (s.present c).inAccept = s.inAccept := rfl
@[simp] theorem State.present_outOffer (c : Cycle) : (s.present c).outOffer = s.outOffer := rfl
@[simp] theorem State.present_loadEnabled (c : Cycle) : (s.present c).loadEnabled = s.loadEnabled := rfl
@[simp] theorem State.present_input (c : Cycle) : (s.present c).input = s.input := rfl
@[simp] theorem State.present_delivered (c : Cycle) : (s.present c).delivered = s.delivered := rfl
@[simp] theorem State.answer_frameN (q : Word) : (s.answer q).frameN = s.frameN := rfl
@[simp] theorem State.answer_look (q : Word) : (s.answer q).look = s.look := rfl
@[simp] theorem State.answer_inAccept (q : Word) : (s.answer q).inAccept = s.inAccept := rfl
@[simp] theorem State.answer_outOffer (q : Word) : (s.answer q).outOffer = s.outOffer := rfl
@[simp] theorem State.answer_loadEnabled (q : Word) : (s.answer q).loadEnabled = s.loadEnabled := rfl
@[simp] theorem State.answer_input (q : Word) : (s.answer q).input = s.input := rfl
@[simp] theorem State.answer_delivered (q : Word) : (s.answer q).delivered = s.delivered := rfl
@[simp] theorem State.writeIe_frameN (d : Word) : (s.writeIe d).frameN = s.frameN := rfl
@[simp] theorem State.writeIe_look (d : Word) : (s.writeIe d).look = s.look := rfl
@[simp] theorem State.writeIe_inAccept (d : Word) : (s.writeIe d).inAccept = s.inAccept := rfl
@[simp] theorem State.writeIe_outOffer (d : Word) : (s.writeIe d).outOffer = s.outOffer := rfl
@[simp] theorem State.writeIe_loadEnabled (d : Word) : (s.writeIe d).loadEnabled = s.loadEnabled := rfl
@[simp] theorem State.writeIe_input (d : Word) : (s.writeIe d).input = s.input := rfl
@[simp] theorem State.writeIe_delivered (d : Word) : (s.writeIe d).delivered = s.delivered := rfl

theorem State.loadEnabled_iff : s.loadEnabled = true ↔ s.outOffer = true ∧ s.obufValid = false := by
  rw [State.loadEnabled, Bool.and_eq_true, Bool.not_eq_true']

end

end Sys2Proof.Machine
end

