-- ==== Sys2Proof/Laws/Step.lean ====
section
/-! SUPPORT. What each shared operation and each edge can do, said once (the inversion lemmas later proofs cite). -/

namespace Sys2Proof.Machine

@[simp] theorem andThen_next (s : State) (f : State → Host.Outcome State Fault Refusal) :
    andThen (.next s) f = f s := rfl

theorem andThen_eq_next {o : Host.Outcome State Fault Refusal} {f : State → Host.Outcome State Fault Refusal}
    {t : State} : andThen o f = .next t ↔ ∃ s, o = .next s ∧ f s = .next t := by
  cases o <;> simp [andThen]

theorem nextState?_eq_some {o : Host.Outcome State Fault Refusal} {t : State} :
    nextState? o = some t ↔ o = .next t := by
  cases o <;> simp [nextState?]

/-- What an idle START does: a passed check accepts the job, a failed one records its code (R104). -/
theorem State.startJob_cases (s : State) :
    (startCheck s.params s.width s.height s.length = 0 ∧ s.startJob = s.clearForStart.acceptJob) ∨
    (startCheck s.params s.width s.height s.length ≠ 0 ∧
      s.startJob = s.clearForStart.raiseInvalidBitmap (startCheck s.params s.width s.height s.length)) := by
  unfold State.startJob
  simp only [State.clearForStart_params, State.clearForStart_width, State.clearForStart_height,
    State.clearForStart_length]
  by_cases h : startCheck s.params s.width s.height s.length = 0
  · exact .inl ⟨h, if_pos h⟩
  · exact .inr ⟨h, if_neg h⟩

/-- START while BUSY (R107), and START on an idle block (R104). -/
theorem execStart_cases (d : Word) (s : State) :
    (s.busy = true ∧ execStart d s = .next (s.writeIe d)) ∨
    (s.busy = false ∧ execStart d s = .next (s.writeIe d).startJob) := by
  unfold execStart
  cases h : s.busy <;> simp [h]

/-- A beat is accepted or waits (R183, R184). -/
theorem execPixelIn_cases (w : Word) (s : State) :
    (s.inAccept = true ∧ execPixelIn w s = .next (s.recordInput w (shift w))) ∨
    (s.inAccept = false ∧ execPixelIn w s = .next s) := by
  unfold execPixelIn
  cases h : s.inAccept <;> simp

/-- A pop delivers, completes, or waits (R188, R110). -/
theorem execPixelOut_cases (s : State) :
    (s.obufValid = true ∧ s.outCount.toNat + 1 = s.frameN ∧ execPixelOut s = .next s.deliver.complete) ∨
    (s.obufValid = true ∧ s.outCount.toNat + 1 ≠ s.frameN ∧ execPixelOut s = .next s.deliver) ∨
    (s.obufValid = false ∧ execPixelOut s = .next s) := by
  unfold execPixelOut
  cases h : s.obufValid
  · simp
  · by_cases hn : s.outCount.toNat + 1 = s.frameN <;> simp [hn]

/-- What the engine's own action can do when it does not stop (R187). -/
theorem engineLoad_cases {s t : State} (h : engineLoad s = .next t) :
    (s.outOffer = true ∧ s.obufValid = false ∧ ∃ w, outWord s s.outCount.toNat = .ok w ∧ t = s.loadObuf w) ∨
    ((s.outOffer = false ∨ s.obufValid = true) ∧ t = s) := by
  unfold engineLoad at h
  split at h
  next hc =>
    left
    rw [Bool.and_eq_true, Bool.not_eq_true'] at hc
    split at h
    next w hw => exact ⟨hc.1, hc.2, w, hw, by simpa using h.symm⟩
    next => simp at h
  next hc =>
    right
    refine ⟨?_, by simpa using h.symm⟩
    cases h1 : s.outOffer <;> cases h2 : s.obufValid <;> simp_all

/-- What one edge can do when it does not stop: reset, or the four phases in the order of R116, with the guards of the
state before the edge. -/
theorem runEdge_cases {c : Cycle} {s t : State} (h : runEdge c s = .next t) :
    (c.rst = true ∧ t = rstEdge c s) ∨
    (c.rst = false ∧ ∃ s1 s2 s3, regPhase c s = .next s1 ∧
      outPhase (s.obufValid && c.outReady) s1 = .next s2 ∧
      inPhase c (inReady c s) s2 = .next s3 ∧ enginePhase c s3 = .next t) := by
  unfold runEdge at h
  split at h
  next hr => exact .inl ⟨hr, by simpa using h.symm⟩
  next hr =>
    right
    obtain ⟨s1, h1, h⟩ := andThen_eq_next.mp h
    obtain ⟨s2, h2, h⟩ := andThen_eq_next.mp h
    obtain ⟨s3, h3, h⟩ := andThen_eq_next.mp h
    exact ⟨by simpa using hr, s1, s2, s3, h1, h2, h3, h⟩

theorem inPhase_cases {c : Cycle} {r : Bool} {s t : State} (h : inPhase c r s = .next t) :
    (∃ w, c.inBeat = some w ∧ r = true ∧ execPixelIn w s = .next t) ∨ ((c.inBeat = none ∨ r = false) ∧ t = s) := by
  unfold inPhase at h
  split at h
  next hc => exact .inr ⟨.inl hc, by simpa using h.symm⟩
  next w hc =>
    split at h
    next hr => exact .inl ⟨w, hc, hr, h⟩
    next hr => exact .inr ⟨.inr (by simpa using hr), by simpa using h.symm⟩

theorem outPhase_cases {f : Bool} {s t : State} (h : outPhase f s = .next t) :
    (f = true ∧ execPixelOut s = .next t) ∨ (f = false ∧ t = s) := by
  unfold outPhase at h
  split at h
  next hf => exact .inl ⟨hf, h⟩
  next hf => exact .inr ⟨by simpa using hf, by simpa using h.symm⟩

theorem enginePhase_cases {c : Cycle} {s t : State} (h : enginePhase c s = .next t) :
    (c.engineLoad = true ∧ engineLoad s = .next t) ∨ (c.engineLoad = false ∧ t = s) := by
  unfold enginePhase at h
  split at h
  next hf => exact .inl ⟨hf, h⟩
  next hf => exact .inr ⟨by simpa using hf, by simpa using h.symm⟩

@[simp] theorem State.nextCycle_present (s : State) (c : Cycle) : (s.present c).nextCycle = c := rfl

/-- Past the schedule's end the next edge is the engine's alone. -/
theorem State.nextCycle_of_sched_nil {s : State} (h : s.sched = []) : s.nextCycle = Cycle.engineOnly := by
  rw [State.nextCycle, h]

/-- An engine that loads at an edge without transactions does just its load. -/
theorem runEdge_engineOnly (s : State) : runEdge Cycle.engineOnly s = engineLoad s := by
  simp [runEdge, Cycle.engineOnly, Cycle.idle, regPhase, outPhase, inPhase, enginePhase]

/-- The step at a state whose next edge was put there by `present`. -/
theorem step_present (c : Cycle) (s : State) :
    step (s.present c) = runEdge c { s with regQ := none, freeIx := s.freeIx + 1 } := rfl

end Sys2Proof.Machine
end

