-- ==== Sys2Proof/Laws/HostProgram.lean ====
section
/-! SUPPORT. What one edge of a host program can do, and when each kind of line completes, said once. -/

namespace Sys2Proof.Machine

@[simp] theorem HostLine.txn_txnOf (t : Txn) : (HostLine.txn t).txnOf = t := rfl
@[simp] theorem HostLine.wait_txnOf : HostLine.wait.txnOf = asmRd .status := rfl

section
variable (l : HostLine) (e : EngineChoice)

@[simp] theorem HostLine.cycle_rst : (l.cycle e).rst = false := by
  rw [HostLine.cycle]; cases l.txnOf <;> rfl
@[simp] theorem HostLine.cycle_engineReady : (l.cycle e).engineReady = e.ready := rfl
@[simp] theorem HostLine.cycle_engineLoad : (l.cycle e).engineLoad = e.load := rfl
@[simp] theorem HostLine.pin_inBeat (w : Word) : ((HostLine.txn (.pin w)).cycle e).inBeat = some w := rfl
@[simp] theorem HostLine.pout_inBeat (w : Word) : ((HostLine.txn (.pout w)).cycle e).inBeat = none := rfl
@[simp] theorem HostLine.pout_outReady (w : Word) : ((HostLine.txn (.pout w)).cycle e).outReady = true := rfl
@[simp] theorem EngineChoice.cycle_rst : e.cycle.rst = false := rfl

end

section
variable (c : Cycle) (s t : State)

@[simp] theorem HostLine.completes_reg (w : RegBits) : (HostLine.txn (.reg w)).completes c s t = true := rfl
@[simp] theorem HostLine.completes_pin (w : Word) : (HostLine.txn (.pin w)).completes c s t = inReady c s := rfl
@[simp] theorem HostLine.completes_pout (w : Word) : (HostLine.txn (.pout w)).completes c s t = s.obufValid := rfl

end

/-- One edge of a host: the block steps, and the current line goes if it completed. -/
theorem HostRun.edge_eq_next {r r1 : HostRun} {e : EngineChoice} :
    r.edge e = .next r1 ↔
      step (r.block.present (r.cycle e)) = .next r1.block ∧ r1.lines = r.linesAfter (r.cycle e) r1.block := by
  rw [HostRun.edge]
  cases step (r.block.present (r.cycle e)) with
  | next t =>
    cases r1
    simp only [Host.Outcome.next.injEq, HostRun.mk.injEq]
    constructor
    · rintro ⟨rfl, rfl⟩; exact ⟨rfl, rfl⟩
    · rintro ⟨rfl, rfl⟩; exact ⟨rfl, rfl⟩
  | fault f => simp
  | refused f => simp

@[simp] theorem HostRun.run_nil (r : HostRun) : HostRun.run [] r = .next r := rfl

theorem HostRun.run_cons_of_next {r r1 : HostRun} {e : EngineChoice} (es : List EngineChoice) (h : r.edge e = .next r1) :
    HostRun.run (e :: es) r = HostRun.run es r1 := by
  rw [HostRun.run, h]

@[simp] theorem HostRun.linesAfter_nil (c : Cycle) (s t : State) :
    ({ lines := [], block := s } : HostRun).linesAfter c t = [] := rfl

/-- The current line stays in front of the others until it completes. -/
@[simp] theorem HostRun.linesAfter_cons (l : HostLine) (rest : List HostLine) (c : Cycle) (s t : State) :
    ({ lines := l :: rest, block := s } : HostRun).linesAfter c t =
      if l.completes c s t then rest else l :: rest := rfl

@[simp] theorem HostRun.cycle_cons (l : HostLine) (rest : List HostLine) (s : State) (e : EngineChoice) :
    ({ lines := l :: rest, block := s } : HostRun).cycle e = l.cycle e := rfl

@[simp] theorem HostRun.cycle_nil (s : State) (e : EngineChoice) :
    ({ lines := [], block := s } : HostRun).cycle e = e.cycle := rfl

end Sys2Proof.Machine
end

