-- ==== Sys2Proof/Laws/Memory.lean ====
section
/-! SUPPORT. The laws of the pixel-indexed maps: what a read gives after each operation, that every operation keeps the
canonical form, and that maps in that form are equal when they read equal. -/

namespace Sys2Proof.Machine

theorem Memory.read_write_self (m : Memory) (q : Nat) (w : Word) :
    Memory.read (Memory.write m q w) q = some w := by
  induction m with
  | nil => simp [Memory.write, Memory.read]
  | cons e m ih =>
    obtain ⟨k, v⟩ := e
    unfold Memory.write
    split
    · simp [Memory.read]
    · split
      · simp [Memory.read]
      · rw [Memory.read, if_neg (by omega)]
        exact ih

theorem Memory.read_write_of_ne (m : Memory) {q r : Nat} (w : Word) (h : r ≠ q) :
    Memory.read (Memory.write m q w) r = Memory.read m r := by
  induction m with
  | nil => simp [Memory.write, Memory.read, h.symm]
  | cons e m ih =>
    obtain ⟨k, v⟩ := e
    unfold Memory.write
    split
    · simp [Memory.read, h.symm]
    · split
      next hk => subst hk; simp [Memory.read, h.symm]
      next => simp only [Memory.read, ih]

theorem Memory.mem_write {m : Memory} {q : Nat} {w : Word} {e : Nat × Word} (h : e ∈ Memory.write m q w) :
    e = (q, w) ∨ e ∈ m := by
  induction m with
  | nil => simpa [Memory.write] using h
  | cons a m ih =>
    obtain ⟨k, v⟩ := a
    unfold Memory.write at h
    split at h
    · simpa using h
    · split at h
      · rcases List.mem_cons.mp h with h | h
        · exact .inl h
        · exact .inr (List.mem_cons_of_mem _ h)
      · rcases List.mem_cons.mp h with h | h
        · exact .inr (by simp [h])
        · rcases ih h with h | h
          · exact .inl h
          · exact .inr (List.mem_cons_of_mem _ h)

theorem Memory.wf_nil : Memory.wf [] := List.Pairwise.nil

theorem Memory.wf_write {m : Memory} (h : Memory.wf m) (q : Nat) (w : Word) : Memory.wf (Memory.write m q w) := by
  induction m with
  | nil => simp [Memory.write, Memory.wf]
  | cons e m ih =>
    obtain ⟨k, v⟩ := e
    obtain ⟨hk, hm⟩ := List.pairwise_cons.mp h
    unfold Memory.write
    split
    next hq =>
      refine List.pairwise_cons.mpr ⟨fun a ha => ?_, h⟩
      rcases List.mem_cons.mp ha with rfl | ha
      · exact hq
      · exact Nat.lt_trans hq (hk a ha)
    next hq =>
      split
      next hqk => subst hqk; exact List.pairwise_cons.mpr ⟨hk, hm⟩
      next hqk =>
        refine List.pairwise_cons.mpr ⟨fun a ha => ?_, ih hm⟩
        rcases Memory.mem_write ha with rfl | ha
        · show k < q; omega
        · exact hk a ha

theorem Memory.wf_dropBelow {m : Memory} (h : Memory.wf m) (b : Nat) : Memory.wf (Memory.dropBelow m b) :=
  List.Pairwise.sublist List.filter_sublist h

theorem Memory.read_eq_none_of_forall {m : Memory} {q : Nat} (h : ∀ e ∈ m, e.1 ≠ q) : Memory.read m q = none := by
  induction m with
  | nil => rfl
  | cons e m ih =>
    obtain ⟨k, v⟩ := e
    rw [Memory.read, if_neg (h (k, v) (by simp))]
    exact ih fun a ha => h a (List.mem_cons_of_mem _ ha)

theorem Memory.read_dropBelow (m : Memory) (b q : Nat) :
    Memory.read (Memory.dropBelow m b) q = if b ≤ q then Memory.read m q else none := by
  induction m with
  | nil => simp [Memory.dropBelow, Memory.read]
  | cons e m ih =>
    obtain ⟨k, v⟩ := e
    unfold Memory.dropBelow at ih ⊢
    rw [List.filter_cons]
    split
    next hb =>
      have hb : b ≤ k := by simpa using hb
      simp only [Memory.read, ih]
      split
      next hk => subst hk; simp [hb]
      next => rfl
    next hb =>
      have hb : ¬b ≤ k := by simpa using hb
      rw [ih, Memory.read]
      split
      next hq => rw [if_neg (by omega : ¬k = q)]
      next => rfl

theorem Memory.read_isSome_iff_mem {m : Memory} {q : Nat} :
    (Memory.read m q).isSome = true ↔ ∃ w, (q, w) ∈ m := by
  induction m with
  | nil => simp [Memory.read]
  | cons e m ih =>
    obtain ⟨k, v⟩ := e
    rw [Memory.read]
    split
    next hk => subst hk; simp
    next hk =>
      rw [ih]
      simp [Ne.symm hk]

/-- Maps in canonical form that read equal are equal data. -/
theorem Memory.eq_of_read_eq : ∀ {m m' : Memory}, Memory.wf m → Memory.wf m' →
    (∀ q, Memory.read m q = Memory.read m' q) → m = m'
  | [], [], _, _, _ => rfl
  | [], (k, v) :: m', _, _, h => by simpa [Memory.read] using h k
  | (k, v) :: m, [], _, _, h => by simpa [Memory.read] using h k
  | (k, v) :: m, (k', v') :: m', hw, hw', h => by
    obtain ⟨hk, hm⟩ := List.pairwise_cons.mp hw
    obtain ⟨hk', hm'⟩ := List.pairwise_cons.mp hw'
    have below : ∀ {j : Nat} {n : Memory}, (∀ a ∈ n, j < a.1) → ∀ i ≤ j, Memory.read n i = none :=
      fun hn i hi => Memory.read_eq_none_of_forall fun a ha => by have := hn a ha; omega
    have hkk : k = k' := by
      rcases Nat.lt_trichotomy k k' with hlt | heq | hgt
      · have := h k
        rw [Memory.read, if_pos rfl, Memory.read, if_neg (by omega), below hk' k (by omega)] at this
        simp at this
      · exact heq
      · have := h k'
        rw [Memory.read, if_neg (by omega), Memory.read, if_pos rfl, below hk k' (by omega)] at this
        simp at this
    subst hkk
    have hv : v = v' := by simpa [Memory.read] using h k
    subst hv
    have : m = m' := Memory.eq_of_read_eq hm hm' fun q => by
      by_cases hq : k = q
      · subst hq; rw [below hk k le_rfl, below hk' k le_rfl]
      · have := h q
        rwa [Memory.read, if_neg hq, Memory.read, if_neg hq] at this
    rw [this]

/-- Reading several entries that are all written. -/
theorem Memory.readAll_eq_ok {m : Memory} {f : Nat → Word} : ∀ {qs : List Nat},
    (∀ q ∈ qs, Memory.read m q = some (f q)) → Memory.readAll m qs = .ok (qs.map f)
  | [], _ => rfl
  | q :: qs, h => by
    rw [Memory.readAll, h q (by simp), Memory.readAll_eq_ok fun r hr => h r (List.mem_cons_of_mem _ hr)]
    rfl

end Sys2Proof.Machine
end

