-- ==== Sys2Proof/Laws/PerInstr.lean ====
section
/-! SUPPORT. The family TableRow: the word that carries an instruction has the fixed bits of a row of its mnemonic in
spec/opcode_table.json. -/

namespace Sys2Proof.Laws.TableRow

/-- The rows of an instruction's mnemonic, each as (match, mask), copied from spec/opcode_table.json. -/
def rows : Instr → List (BitVec 39 × BitVec 39)
  | .rdCtrl => [(0x0000000000, 0x7F00000000)]
  | .rdStatus => [(0x0100000000, 0x7F00000000)]
  | .rdWidth => [(0x0200000000, 0x7F00000000)]
  | .rdHeight => [(0x0300000000, 0x7F00000000)]
  | .rdLength => [(0x0400000000, 0x7F00000000)]
  | .rdInCount => [(0x0500000000, 0x7F00000000)]
  | .rdOutCount => [(0x0600000000, 0x7F00000000)]
  | .rdParam => [(0x0700000000, 0x7F00000000)]
  | .rdShiftk => [(0x0800000000, 0x7F00000000)]
  | .rdRsvd _ => [(0x0900000000, 0x7F00000000), (0x0A00000000, 0x7E00000000), (0x0C00000000, 0x7C00000000),
      (0x1000000000, 0x7000000000), (0x2000000000, 0x6000000000)]
  | .wrCtrl _ => [(0x4000000000, 0x7F00000001)]
  | .start _ => [(0x4000000001, 0x7F00000001)]
  | .wrStatus _ => [(0x4100000000, 0x7F00000000)]
  | .wrWidth _ => [(0x4200000000, 0x7F00000000)]
  | .wrHeight _ => [(0x4300000000, 0x7F00000000)]
  | .wrLength _ => [(0x4400000000, 0x7F00000000)]
  | .wrRo _ _ => [(0x4500000000, 0x7F00000000), (0x4600000000, 0x7E00000000), (0x4800000000, 0x7F00000000)]
  | .wrRsvd _ _ => [(0x4900000000, 0x7F00000000), (0x4A00000000, 0x7E00000000), (0x4C00000000, 0x7C00000000),
      (0x5000000000, 0x7000000000), (0x6000000000, 0x6000000000)]
  | .pixelIn _ => [(0, 0)]
  | .pixelOut => [(0, 0)]

/-- The bits of a transaction, whichever port carries it. -/
def bits : Txn → BitVec 39
  | .reg w => w
  | .pin w => w.setWidth 39
  | .pout w => w.setWidth 39

/-- A well-formed instruction's word has the fixed bits of one of its rows. -/
def Statement (i : Instr) : Prop :=
  i.wellFormed = true → ∃ r ∈ rows i, bits (encode i) &&& r.2 = r.1

theorem regWord_and (e e' : Bool) (a a' : RegAddr) (d d' : Word) :
    regWord e a d &&& regWord e' a' d' = regWord (e && e') (a &&& a') (d &&& d') := by
  unfold regWord
  rw [BitVec.and_append, BitVec.and_append]
  congr 2
  cases e <;> cases e' <;> rfl

/-- A write whose row fixes WE and all of A. -/
theorem fixed_write (a : RegAddr) (d : Word) :
    regWord true a d &&& 0x7F00000000#39 = regWord true a 0 := by
  rw [show (0x7F00000000#39 : RegBits) = regWord true 0x3F 0 by decide, regWord_and]
  congr 1
  · exact BitVec.and_allOnes
  · exact BitVec.and_zero

theorem rdCtrl : Statement .rdCtrl := by unfold Statement; decide
theorem rdStatus : Statement .rdStatus := by unfold Statement; decide
theorem rdWidth : Statement .rdWidth := by unfold Statement; decide
theorem rdHeight : Statement .rdHeight := by unfold Statement; decide
theorem rdLength : Statement .rdLength := by unfold Statement; decide
theorem rdInCount : Statement .rdInCount := by unfold Statement; decide
theorem rdOutCount : Statement .rdOutCount := by unfold Statement; decide
theorem rdParam : Statement .rdParam := by unfold Statement; decide
theorem rdShiftk : Statement .rdShiftk := by unfold Statement; decide
theorem rdRsvd (a : RegAddr) : Statement (.rdRsvd a) := by
  have : ∀ a : RegAddr, Statement (.rdRsvd a) := by unfold Statement; decide
  exact this a

/-- Bit 0 of D, the bit that tells START from WR_CTRL. -/
theorem and_one (d : Word) : d &&& 1#32 = if d.getLsbD 0 then 1#32 else 0#32 := by
  apply BitVec.eq_of_getLsbD_eq
  intro i hi
  rw [BitVec.getLsbD_and]
  by_cases h : i = 0
  · subst h; cases d.getLsbD 0 <;> rfl
  · cases d.getLsbD 0 <;> simp [h]

theorem ctrl_write (d : Word) :
    regWord true 0 d &&& 0x7F00000001#39 = regWord true 0 (if d.getLsbD 0 then 1#32 else 0#32) := by
  rw [show (0x7F00000001#39 : RegBits) = regWord true 0x3F 1#32 by decide, regWord_and, and_one]
  congr 1

theorem wrCtrl (d : Word) : Statement (.wrCtrl d) := by
  intro h
  have h : d.getLsbD 0 = false := by simpa [Instr.wellFormed] using h
  refine ⟨(0x4000000000, 0x7F00000001), by simp [rows], ?_⟩
  exact (ctrl_write d).trans (by rw [h]; decide)

theorem start (d : Word) : Statement (.start d) := by
  intro h
  have h : d.getLsbD 0 = true := h
  refine ⟨(0x4000000001, 0x7F00000001), by simp [rows], ?_⟩
  exact (ctrl_write d).trans (by rw [h]; decide)

theorem wrStatus (d : Word) : Statement (.wrStatus d) := fun _ =>
  ⟨_, List.mem_singleton.mpr rfl, (fixed_write 1 d).trans (by decide)⟩
theorem wrWidth (d : Word) : Statement (.wrWidth d) := fun _ =>
  ⟨_, List.mem_singleton.mpr rfl, (fixed_write 2 d).trans (by decide)⟩
theorem wrHeight (d : Word) : Statement (.wrHeight d) := fun _ =>
  ⟨_, List.mem_singleton.mpr rfl, (fixed_write 3 d).trans (by decide)⟩
theorem wrLength (d : Word) : Statement (.wrLength d) := fun _ =>
  ⟨_, List.mem_singleton.mpr rfl, (fixed_write 4 d).trans (by decide)⟩

/-- A write whose row leaves D free: only WE and A meet the mask. -/
theorem block_write (a : RegAddr) (d : Word) (m : RegBits) (hm : m &&& 0x7F00000000#39 = m) :
    regWord true a d &&& m = regWord true a 0 &&& m := by
  rw [← hm, BitVec.and_comm m, ← BitVec.and_assoc, ← BitVec.and_assoc, fixed_write, fixed_write]

theorem wrRo (a : RegAddr) (d : Word) : Statement (.wrRo a d) := by
  intro h
  have key : ∀ a : RegAddr, Instr.wellFormed (.wrRo a 0) = true →
      ∃ r ∈ rows (.wrRo 0 0), r.2 &&& 0x7F00000000#39 = r.2 ∧ regWord true a 0 &&& r.2 = r.1 := by decide
  obtain ⟨r, hr, hm, he⟩ := key a h
  exact ⟨r, hr, (block_write a d r.2 hm).trans he⟩

theorem wrRsvd (a : RegAddr) (d : Word) : Statement (.wrRsvd a d) := by
  intro h
  have key : ∀ a : RegAddr, Instr.wellFormed (.wrRsvd a 0) = true →
      ∃ r ∈ rows (.wrRsvd 0 0), r.2 &&& 0x7F00000000#39 = r.2 ∧ regWord true a 0 &&& r.2 = r.1 := by decide
  obtain ⟨r, hr, hm, he⟩ := key a h
  exact ⟨r, hr, (block_write a d r.2 hm).trans he⟩

theorem pixelIn (w : Word) : Statement (.pixelIn w) := fun _ =>
  ⟨_, List.mem_singleton.mpr rfl, BitVec.and_zero⟩
theorem pixelOut : Statement .pixelOut := fun _ =>
  ⟨_, List.mem_singleton.mpr rfl, BitVec.and_zero⟩

end Sys2Proof.Laws.TableRow
end

