-- ==== Sys2Proof/Laws/Pixel.lean ====
section
/-! SUPPORT. The lanes of a pixel word taken apart and put together (R10, R53). -/

namespace Sys2Proof.Machine

/-- The lane of R10 with its literals. -/
theorem lane_eq (w : Word) (c : Nat) : lane w c = w.extractLsb' (8 * c) 8 := rfl

@[simp] theorem lane_pix_red (r g b a : Byte) : lane (pix r g b a) 0 = r := by
  rw [lane_eq, pix]
  ext i hi
  rw [BitVec.getElem_extractLsb', BitVec.getLsbD_append, if_pos (by omega), Nat.mul_zero, Nat.zero_add,
    BitVec.getLsbD_eq_getElem hi]

@[simp] theorem lane_pix_green (r g b a : Byte) : lane (pix r g b a) 1 = g := by
  rw [lane_eq, pix]
  ext i hi
  rw [BitVec.getElem_extractLsb', BitVec.getLsbD_append, if_neg (by omega), BitVec.getLsbD_append,
    if_pos (by omega), Nat.mul_one, Nat.add_sub_cancel_left, BitVec.getLsbD_eq_getElem hi]

@[simp] theorem lane_pix_blue (r g b a : Byte) : lane (pix r g b a) 2 = b := by
  rw [lane_eq, pix]
  ext i hi
  rw [BitVec.getElem_extractLsb', BitVec.getLsbD_append, if_neg (by omega), BitVec.getLsbD_append,
    if_neg (by omega), BitVec.getLsbD_append, if_pos (by omega), show 8 * 2 + i - 8 - 8 = i by omega,
    BitVec.getLsbD_eq_getElem hi]

@[simp] theorem lane_pix_alpha (r g b a : Byte) : lane (pix r g b a) 3 = a := by
  rw [lane_eq, pix]
  ext i hi
  rw [BitVec.getElem_extractLsb', BitVec.getLsbD_append, if_neg (by omega), BitVec.getLsbD_append,
    if_neg (by omega), BitVec.getLsbD_append, if_neg (by omega), show 8 * 3 + i - 8 - 8 - 8 = i by omega,
    BitVec.getLsbD_eq_getElem hi]

/-- A word is its four lanes. -/
theorem pix_lanes (w : Word) : pix (lane w 0) (lane w 1) (lane w 2) (lane w 3) = w := by
  apply BitVec.eq_of_getLsbD_eq
  intro i hi
  unfold pix
  simp only [lane_eq, BitVec.getLsbD_append, BitVec.getLsbD_extractLsb']
  split
  next h => simp [h]
  next h =>
    split
    next h2 => simp only [h2, decide_true, Bool.true_and]; congr 1; omega
    next h2 =>
      split
      next h3 => simp only [h3, decide_true, Bool.true_and]; congr 1; omega
      next h3 =>
        have h4 : i - 8 - 8 - 8 < 8 := by omega
        simp only [h4, decide_true, Bool.true_and]; congr 1; omega

end Sys2Proof.Machine
end

