-- ==== Sys2Proof/Tests/Slice0.lean ====
section
/-! SUPPORT. Tests against the spec's own words and vectors (95), each on one transaction or one edge, and for every
statement with hypotheses a concrete state and operands that meet them (`witness_…`). -/

namespace Sys2Proof.Tests

open Sys2Proof Sys2Proof.Machine

/-! ### WellFormed refuses (R75) -/

theorem test_wellFormed_refuses_rdRsvd_8 : (Instr.rdRsvd 8).wellFormed = false := by decide
theorem test_wellFormed_refuses_wrCtrl_start_bit : (Instr.wrCtrl 3).wellFormed = false := by decide
theorem test_wellFormed_refuses_start_without_bit : (Instr.start 6).wellFormed = false := by decide
theorem test_wellFormed_refuses_wrRo_4 : (Instr.wrRo 4 0).wellFormed = false := by decide
theorem test_wellFormed_refuses_wrRo_9 : (Instr.wrRo 9 0).wellFormed = false := by decide
theorem test_wellFormed_refuses_wrRsvd_8 : (Instr.wrRsvd 8 0).wellFormed = false := by decide
theorem test_wellFormed_takes_the_bounds :
    (Instr.rdRsvd 9).wellFormed ∧ (Instr.rdRsvd 63).wellFormed ∧ (Instr.wrRo 5 0).wellFormed ∧
      (Instr.wrRo 8 0).wellFormed ∧ (Instr.wrRsvd 9 0).wellFormed ∧ (Instr.wrRsvd 63 0).wellFormed := by decide

/-! ### Decoding: each word is written out from R71 as WE, A, D -/

theorem test_decode_rdCtrl : decode (.reg (0b0#1 ++ 0b000000#6 ++ 0xFFFFFFFF#32)) = .rdCtrl := by decide
theorem test_decode_rdStatus : decode (.reg (0b0#1 ++ 0b000001#6 ++ 0x0#32)) = .rdStatus := by decide
theorem test_decode_rdWidth : decode (.reg (0b0#1 ++ 0b000010#6 ++ 0x0#32)) = .rdWidth := by decide
theorem test_decode_rdHeight : decode (.reg (0b0#1 ++ 0b000011#6 ++ 0x0#32)) = .rdHeight := by decide
theorem test_decode_rdLength : decode (.reg (0b0#1 ++ 0b000100#6 ++ 0x0#32)) = .rdLength := by decide
theorem test_decode_rdInCount : decode (.reg (0b0#1 ++ 0b000101#6 ++ 0x0#32)) = .rdInCount := by decide
theorem test_decode_rdOutCount : decode (.reg (0b0#1 ++ 0b000110#6 ++ 0x0#32)) = .rdOutCount := by decide
theorem test_decode_rdParam : decode (.reg (0b0#1 ++ 0b000111#6 ++ 0x0#32)) = .rdParam := by decide
theorem test_decode_rdShiftk : decode (.reg (0b0#1 ++ 0b001000#6 ++ 0x0#32)) = .rdShiftk := by decide
theorem test_decode_rdRsvd_first : decode (.reg (0b0#1 ++ 0b001001#6 ++ 0x0#32)) = .rdRsvd 9 := by decide
theorem test_decode_rdRsvd_last : decode (.reg (0b0#1 ++ 0b111111#6 ++ 0x0#32)) = .rdRsvd 63 := by decide
theorem test_decode_wrCtrl : decode (.reg (0b1#1 ++ 0b000000#6 ++ 0x6#32)) = .wrCtrl 6 := by decide
theorem test_decode_start : decode (.reg (0b1#1 ++ 0b000000#6 ++ 0x7#32)) = .start 7 := by decide
theorem test_decode_wrStatus : decode (.reg (0b1#1 ++ 0b000001#6 ++ 0x4#32)) = .wrStatus 4 := by decide
theorem test_decode_wrWidth : decode (.reg (0b1#1 ++ 0b000010#6 ++ 0x1234000A#32)) = .wrWidth 0x1234000A := by decide
theorem test_decode_wrHeight : decode (.reg (0b1#1 ++ 0b000011#6 ++ 0x7#32)) = .wrHeight 7 := by decide
theorem test_decode_wrLength : decode (.reg (0b1#1 ++ 0b000100#6 ++ 0xC4#32)) = .wrLength 196 := by decide
theorem test_decode_wrRo_first : decode (.reg (0b1#1 ++ 0b000101#6 ++ 0x1#32)) = .wrRo 5 1 := by decide
theorem test_decode_wrRo_last : decode (.reg (0b1#1 ++ 0b001000#6 ++ 0x1#32)) = .wrRo 8 1 := by decide
theorem test_decode_wrRsvd_first : decode (.reg (0b1#1 ++ 0b001001#6 ++ 0x1#32)) = .wrRsvd 9 1 := by decide
theorem test_decode_wrRsvd_last : decode (.reg (0b1#1 ++ 0b111111#6 ++ 0x1#32)) = .wrRsvd 63 1 := by decide
/-- A pixel beat is alpha, blue, green, red from bit 31 down (R72). -/
theorem test_decode_pixelIn :
    decode (.pin (0x7F#8 ++ 0x05#8 ++ 0xC8#8 ++ 0x0A#8)) = .pixelIn (pix 0x0A 0xC8 0x05 0x7F) := by decide
theorem test_decode_pixelOut : decode (.pout 0xFFFFFFFF) = .pixelOut := by decide

theorem test_decodeTableWord_reg : decodeTableWord 40 0x420000000A = some (.wrWidth 10) := by decide
theorem test_decodeTableWord_pin : decodeTableWord 32 0x7F05C80A = some (.pixelIn 0x7F05C80A) := by decide
theorem test_decodeBits_refuses_too_wide : decodeBits .reg 40 0x8000000000 = .error .tooWide := by rfl
theorem test_decodeBits_refuses_wrong_length : decodeBits .pout 40 0 = .error .wrongLength := by rfl
theorem test_decodeBits_pout : decodeBits .pout 32 0x7F9BFA6E = .ok .pixelOut := by rfl

/-! ### States for the tests -/

/-- An idle block with a 1×1 frame programmed (P1 of 95). -/
def idle1 : State := { State.reset with width := 1, height := 1, length := 4 }

/-- The 1×1 job, started. -/
def run0 : State := { idle1 with busy := true }

/-- The 1×1 job with its one pixel accepted (P1: `push 0x7F05C80A`). -/
def run1 : State := { run0 with inCount := 1, hist := [(0, 0x7F9BFA6E)], inPix := [(0, 0x7F05C80A)] }

/-- The 1×1 job with its one output offered. -/
def offered : State := { run1 with obufValid := true, obufWord := 0x7F9BFA6E }

/-- A 2×1 job, started, that a lock-step host is about to feed (R251). -/
def lock0 : State := { run0 with width := 2, length := 8 }

/-- A 2×1 job after the first push of a lock-step host (R251). -/
def lock1 : State := { run1 with width := 2, length := 8 }

/-- A refused START's state: STATUS reads 0x14. -/
def refused1 : State := { State.reset with err := true, errcode := 1 }

/-- A 7×7 job, with counters to be set. -/
def frame7 (i o : BitVec 32) : State :=
  { State.reset with width := 7, height := 7, length := 196, busy := true, inCount := i, outCount := o }

/-- One field of the next state. -/
def after (o : Host.Outcome State Fault Refusal) (f : State → α) : Option α := (nextState? o).map f

/-! ### Register transactions (95 §2.6) -/

theorem test_RG1_wrCtrl : after (exec (.wrCtrl 6) State.reset) ctrlValue = some 0x00000006 := by decide
theorem test_RG2_wrCtrl_reserved : after (exec (.wrCtrl 0xFFFFFFFE) State.reset) ctrlValue = some 0x00000006 := by decide
theorem test_RG3_start_refused : after (exec (.start 1) State.reset) (fun t => (statusValue t, ctrlValue t))
    = some (0x14, 0) := by decide
theorem test_RG4_wrStatus : after (exec (.wrStatus 4) refused1) statusValue = some 0 := by decide
theorem test_RG5_wrStatus_done_only : after (exec (.wrStatus 2) refused1) statusValue = some 0x14 := by decide
theorem test_RG6_wrStatus_not_writable :
    after (exec (.wrStatus 0xF1) { refused1 with errcode := 2 }) statusValue = some 0x24 := by decide
theorem test_RG7_wrWidth : after (exec (.wrWidth 0x1234000A) idle1) (·.width) = some 10 := by decide
theorem test_RG8_wrWidth_busy : after (exec (.wrWidth 3) (frame7 0 0)) (·.width) = some 7 := by decide
theorem test_wrHeight : after (exec (.wrHeight 0xFFFF0007) idle1) (·.height) = some 7 := by decide
theorem test_RG9_wrLength : after (exec (.wrLength 0xFFFFFFFF) idle1) (·.length) = some 0xFFFFFFFF := by decide
theorem test_RG10_wrRo : after (exec (.wrRo 5 5) State.reset) (·.inCount) = some 0 := by decide
theorem test_RG11_rdParam : after (exec .rdParam State.reset) (·.regQ) = some (some 0x04030800) := by decide
theorem test_RG12_rdShiftk : after (exec .rdShiftk State.reset) (·.regQ) = some (some 0x00963264) := by decide
theorem test_RG14_rdRsvd : after (exec (.rdRsvd 63) run1) (·.regQ) = some (some 0) := by decide
theorem test_RG16_wrRsvd : exec (.wrRsvd 63 1) idle1 = .next idle1 := rfl
theorem test_RG17_rdStatus : after (exec .rdStatus { idle1 with done := true }) (fun t => (t.regQ, t.done))
    = some (some 0x00000002, true) := by decide
theorem test_rdCtrl : after (exec .rdCtrl { idle1 with doneIe := true }) (·.regQ) = some (some 2) := by decide
theorem test_rdWidth : after (exec .rdWidth (frame7 0 0)) (·.regQ) = some (some 7) := by decide
theorem test_rdHeight : after (exec .rdHeight { idle1 with height := 0xFFFF }) (·.regQ) = some (some 0xFFFF) := by decide
theorem test_rdLength : after (exec .rdLength (frame7 0 0)) (·.regQ) = some (some 0xC4) := by decide
theorem test_rdInCount : after (exec .rdInCount (frame7 12 3)) (·.regQ) = some (some 12) := by decide
theorem test_rdOutCount : after (exec .rdOutCount (frame7 12 3)) (·.regQ) = some (some 3) := by decide

/-! ### The START check (95 §2.5), with MAX_WIDTH = 2048 -/

theorem test_CK_codes :
    let p := State.reset.params
    startCheck p 0 0 0 = 1 ∧ startCheck p 0 5 0 = 1 ∧ startCheck p 5 0 0 = 1 ∧ startCheck p 2 2 16 = 0 ∧
    startCheck p 2 2 15 = 1 ∧ startCheck p 2 2 17 = 1 ∧ startCheck p 1 1 4 = 0 ∧
    startCheck p 65535 65535 0xFFF80004 = 1 ∧ startCheck p 32768 32768 0 = 1 := by decide
theorem test_CK_width_limit :
    let p := State.reset.params
    startCheck p 2049 1 8196 = 2 ∧ startCheck p 2049 1 0 = 1 ∧ startCheck p 2048 65535 536862720 = 0 := by decide
theorem test_start_accepts :
    after (exec (.start 3) idle1) (fun t => (statusValue t, t.doneIe, t.inCount)) = some (1, true, 0) := by decide

/-! ### The streams (95 §2.7, P1) -/

theorem test_pixelIn_P1 : after (exec (.pixelIn 0x7F05C80A) run0) (fun t => (t.hist, t.inCount))
    = some ([(0, 0x7F9BFA6E)], 1) := by decide
theorem test_pixelIn_waits_idle : exec (.pixelIn 5) idle1 = .next idle1 := rfl
theorem test_pixelOut_P1 : after (exec .pixelOut offered) (fun t => (t.taken, t.outCount, statusValue t))
    = some ([0x7F9BFA6E], 1, 2) := by decide
theorem test_pixelOut_waits : exec .pixelOut run1 = .next run1 := rfl
theorem test_engine_offers_P1 : after (engineLoad run1) (fun t => (t.obufValid, t.obufWord))
    = some (true, 0x7F9BFA6E) := by decide
/-- R36: a read of an unwritten HIST entry is a fault. -/
theorem test_engine_faults_on_unwritten_hist :
    engineLoad { run1 with hist := [] } = .fault (.histUnwritten 0) := by rfl
/-- AV-5: the smallest IN_COUNT at which output p of a 7×7 frame may be offered. -/
theorem test_AV5 : ∀ e ∈ [(0, 9), (15, 24), (24, 33), (39, 48), (40, 49), (48, 49)],
    (frame7 (BitVec.ofNat 32 e.2) 0).avail e.1 = true ∧ (frame7 (BitVec.ofNat 32 (e.2 - 1)) 0).avail e.1 = false := by
  decide
theorem test_IA : (frame7 8 0).inAccept = true ∧ (frame7 9 0).inAccept = false ∧
    State.inAccept { frame7 10 0 with params := { maxWidth := 8, slack := 2, regBase := 0 } } = true ∧
    (frame7 49 45).inAccept = false ∧ idle1.inAccept = false := by decide

/-! ### SHIFT, the interior, BLUR (95 §2.1–§2.3) -/

theorem test_SH : shift 0x00000000 = 0x00963264 ∧ shift 0xFFFFFFFF = 0xFF953163 ∧ shift 0x12696D9B = 0x12FF9FFF ∧
    shift 0x126ACE9C = 0x12000000 ∧ shift 0x3469CD9B = 0x34FFFFFF ∧ shift 0x7F05C80A = 0x7F9BFA6E ∧
    shift 0xFFFF0AC8 = 0xFF953C2C := by decide
theorem test_IN : interior 7 7 3 3 = true ∧ interior 7 6 3 3 = false ∧ interior 6 100 50 3 = false ∧
    interior 1 2 0 0 = false ∧ interior 10 10 2 5 = false ∧ interior 10 10 6 6 = true ∧ interior 10 10 7 6 = false := by
  decide
theorem test_BL : blurSamples [10, 20, 30, 40, 50, 60, 70, 80, 90] = 50 ∧
    blurSamples [0, 255, 0, 0, 0, 0, 0, 0, 0] = 31 ∧ blurSamples [0, 0, 0, 0, 0, 0, 0, 0, 17] = 1 ∧
    blurSamples [255, 0, 255, 0, 255, 0, 255, 0, 255] = 127 ∧
    blurSamples [150, 150, 150, 150, 150, 0, 150, 150, 150] = 131 := by decide
/-- V-G8: the interior pixel (3, 3) of the 8×8 gradient, whose blue wraps inside the window. -/
theorem test_VG8_centre :
    refOut 8 8 (fun p => pix (BitVec.ofNat 8 (16 * (p % 8) + p / 8)) (BitVec.ofNat 8 (30 * (p / 8)))
      (BitVec.ofNat 8 (20 * (p % 8 + p / 8))) (BitVec.ofNat 8 (0x80 + p % 8))) 27 = 0x835E8C97 := by decide
theorem test_window_24 : windowIndices 7 24 = [16, 17, 18, 23, 24, 25, 30, 31, 32] := by decide

/-! ### The edge -/

/-- The edge of `wr WIDTH, 10` given as a table word is the first thing to run after reset. -/
theorem test_step_runs_table_word : after (step (State.reset.withFetchWord 40 0x420000000A)) (·.width) = some 10 := by
  decide
/-- R116: a W1C in the cycle of the completing output beat does not clear the DONE that completion sets. -/
theorem test_edge_set_wins :
    after (step (offered.present { Cycle.idle with reg := some 0x4100000002, outReady := true })) statusValue
      = some 2 := by decide
/-- R240: reset in the middle of a job. -/
theorem test_edge_reset : after (step (offered.present { Cycle.idle with rst := true, outReady := true }))
    (fun t => (statusValue t, t.width, t.inCount, t.obufValid, t.taken)) = some (0, 0, 0, false, []) := by decide
/-- R73, R116: the ports in the cycle of the completing output beat, with a RD_STATUS on the bus. -/
theorem test_outputs : outputs { Cycle.idle with reg := some 0x0100000000, outReady := true } offered =
    { regReady := true, regRdata := some 0x00000001, inReady := false, outValid := true, outData := 0x7F9BFA6E,
      irq := false } := by decide
theorem test_irq : irq { idle1 with done := true, doneIe := true } = true ∧
    irq { idle1 with done := true, errIe := true } = false ∧ irq { refused1 with errIe := true } = true := by decide
theorem test_asm_config : asmConfig 7 7 = [.reg 0x4200000007, .reg 0x4300000007, .reg 0x44000000C4] := by decide
/-- CH of R6: four bytes a pixel, R first (R51). -/
theorem test_wordBytes : wordBytes 0x7F05C80A = [0x0A, 0xC8, 0x05, 0x7F] := by decide
theorem test_asm_startIe : asmStartIe true false = [.reg 0x4000000003] ∧ asmClear = [.reg 0x4100000006] := by decide

/-! ### Host programs: a line waits until it completes (R78, R79, R188, R251) -/

/-- An engine that does what it may. -/
def eager : EngineChoice := { ready := true, load := true }

/-- One field of a host after one edge. -/
def hostAfter (o : Host.Outcome HostRun Fault Refusal) (f : HostRun → α) : Option α :=
  match o with
  | .next r => some (f r)
  | .fault _ => none
  | .refused _ => none

/-- `pop` ; `push b` ; `pop`, the rest of a lock-step program after its first push. -/
def lockLines : List HostLine := txnLines [asmPop, asmPush 0x01020304, asmPop]

/-- R251 on a 2×1 frame: the first push completes … -/
theorem test_host_first_push_completes :
    hostAfter (HostRun.edge { lines := .txn (asmPush 0x7F05C80A) :: lockLines, block := lock0 } eager)
      (fun r => (r.lines, r.block.inCount)) = some (lockLines, 1) := by decide
/-- … and the pop behind it waits: the second push is never reached. -/
theorem test_host_pop_waits : hostAfter (HostRun.edge { lines := lockLines, block := lock1 } eager)
    (fun r => (r.lines, r.block.inCount, r.block.outCount)) = some (lockLines, 1, 0) := by decide
/-- P1 of 95: the pop of an offered word completes the line and the job. -/
theorem test_host_pop_completes : hostAfter (HostRun.edge { lines := txnLines [asmPop], block := offered } eager)
    (fun r => (r.lines, r.block.taken, r.block.done)) = some ([], [0x7F9BFA6E], true) := by decide
/-- R79: `wait` goes on while the job runs and ends when its read shows ERR (Q = 0x14). -/
theorem test_host_wait :
    hostAfter (HostRun.edge { lines := [.wait], block := run0 } eager) (·.lines) = some [.wait] ∧
      hostAfter (HostRun.edge { lines := [.wait], block := refused1 } eager) (fun r => (r.lines, r.block.regQ)) =
        some ([], some 0x14) := by decide
theorem test_window_address : platformAddr { maxWidth := 8, slack := 0, regBase := 4096 } 8 = 4096 + 0x20 ∧
    wordAddrOf { maxWidth := 8, slack := 0, regBase := 4096 } 4098 = none := by decide
theorem test_reset_memory : Memory.wf State.reset.hist ∧ Memory.wf State.reset.inPix := by decide

/-! ### Witnesses -/

theorem idle1_legal : Legal idle1 where
  params := by decide
  status := ⟨by decide, by decide, by decide, by decide, by decide⟩
  memory := ⟨by decide, by decide⟩
  countsLe := by decide
  idleEmpty := fun _ => rfl
  idleCounts := fun _ => rfl
  job := fun h => absurd h (by decide)

theorem refused1_legal : Legal refused1 where
  params := by decide
  status := ⟨by decide, by decide, by decide, by decide, by decide⟩
  memory := ⟨by decide, by decide⟩
  countsLe := by decide
  idleEmpty := fun _ => rfl
  idleCounts := fun _ => rfl
  job := fun h => absurd h (by decide)

theorem run0_legal : Legal run0 where
  params := by decide
  status := ⟨by decide, by decide, by decide, by decide, by decide⟩
  memory := ⟨by decide, by decide⟩
  countsLe := by decide
  idleEmpty := fun h => absurd h (by decide)
  idleCounts := fun h => absurd h (by decide)
  job := fun _ =>
    { widthPos := by decide, widthMax := by decide, heightPos := by decide, lengthEq := by decide
      outLt := by decide, inLe := by decide, lookahead := by decide, lag := by decide
      histAt := fun q => by simp [run0, idle1, State.reset, Memory.read]
      inAt := fun q => by simp [run0, idle1, State.reset, Memory.read]
      obuf := fun h => absurd h (by decide)
      delivered := by decide }

theorem run1_job (s : State) (hw : 1 ≤ s.width.toNat) (hwm : s.width.toNat ≤ s.params.maxWidth.toNat)
    (hh : 1 ≤ s.height.toNat) (hl : s.length.toNat = 4 * s.width.toNat * s.height.toNat) (hi : s.inCount = 1)
    (ho : s.outCount = 0) (hm : s.hist = [(0, 0x7F9BFA6E)]) (hp : s.inPix = [(0, 0x7F05C80A)])
    (hob : s.obufValid = true → s.outOffer = true ∧
      s.obufWord = refOut s.width.toNat s.height.toNat s.input s.outCount.toNat) : JobLegal s where
  widthPos := hw
  widthMax := hwm
  heightPos := hh
  lengthEq := hl
  outLt := by rw [ho]; exact Nat.mul_pos hw hh
  inLe := by rw [hi]; exact Nat.mul_pos hw hh
  lookahead := by rw [hi, ho]; show 1 ≤ 0 + (_ + 2 + _); omega
  lag := fun _ => by rw [ho]; exact Nat.zero_le _
  histAt := fun q => by
    rw [hi, ho, hm]
    cases q with
    | zero => simp [Memory.read, State.input, hp]; decide
    | succ q => simp [Memory.read]
  inAt := fun q => by
    rw [hi, hp]
    cases q with
    | zero => simp [Memory.read]
    | succ q => simp [Memory.read]
  obuf := hob
  delivered := by rw [State.delivered, ho]; rfl

theorem run1_legal : Legal run1 where
  params := by decide
  status := ⟨by decide, by decide, by decide, by decide, by decide⟩
  memory := ⟨by decide, by decide⟩
  countsLe := by decide
  idleEmpty := fun h => absurd h (by decide)
  idleCounts := fun h => absurd h (by decide)
  job := fun _ => run1_job run1 (by decide) (by decide) (by decide) (by decide) rfl rfl rfl rfl
    fun h => absurd h (by decide)

theorem offered_legal : Legal offered where
  params := by decide
  status := ⟨by decide, by decide, by decide, by decide, by decide⟩
  memory := ⟨by decide, by decide⟩
  countsLe := by decide
  idleEmpty := fun h => absurd h (by decide)
  idleCounts := fun h => absurd h (by decide)
  job := fun _ => run1_job offered (by decide) (by decide) (by decide) (by decide) rfl rfl rfl rfl
    fun _ => by decide

theorem lock0_legal : Legal lock0 where
  params := by decide
  status := ⟨by decide, by decide, by decide, by decide, by decide⟩
  memory := ⟨by decide, by decide⟩
  countsLe := by decide
  idleEmpty := fun h => absurd h (by decide)
  idleCounts := fun h => absurd h (by decide)
  job := fun _ =>
    { widthPos := by decide, widthMax := by decide, heightPos := by decide, lengthEq := by decide
      outLt := by decide, inLe := by decide, lookahead := by decide, lag := by decide
      histAt := fun q => by simp [lock0, run0, idle1, State.reset, Memory.read]
      inAt := fun q => by simp [lock0, run0, idle1, State.reset, Memory.read]
      obuf := fun h => absurd h (by decide)
      delivered := by decide }

theorem lock1_legal : Legal lock1 where
  params := by decide
  status := ⟨by decide, by decide, by decide, by decide, by decide⟩
  memory := ⟨by decide, by decide⟩
  countsLe := by decide
  idleEmpty := fun h => absurd h (by decide)
  idleCounts := fun h => absurd h (by decide)
  job := fun _ => run1_job lock1 (by decide) (by decide) (by decide) (by decide) rfl rfl rfl rfl
    fun h => absurd h (by decide)

/-- An edge with a REG transaction, an output beat, an input beat and the engine's load. -/
def busyEdge : Cycle :=
  { rst := false, reg := some 0x4000000006, inBeat := some 5, outReady := true, engineReady := true, engineLoad := true }

theorem witness_DecodeInvertsEncode : (Instr.wrRo 8 7).wellFormed = true ∧ (Instr.start 1).wellFormed = true := by decide
theorem witness_DecoderFollowsTransactionMap : 9 ≤ (9#6).toNat ∧ 9 ≤ (63#6).toNat ∧ 5 ≤ (5#6).toNat ∧
    (8#6).toNat ≤ 8 ∧ (6#32).getLsbD 0 = false ∧ (1#32).getLsbD 0 = true := by decide
theorem witness_EncodeInvertsDecode : regWe 0x4500000005 = true ∧ regWe 0x3F00000000 = false := by decide
theorem witness_StepRunsDecodedTransaction : run0.inAccept = true ∧ idle1.inAccept = false ∧
    offered.obufValid = true ∧ run1.obufValid = false := by decide
theorem witness_EdgeIsItsEventsInOrder :
    ∃ s t c, Legal s ∧ c.rst = false ∧ step (s.present c) = .next t :=
  ⟨offered, _, busyEdge, offered_legal, rfl, rfl⟩
theorem witness_SameCycleConsequences : idle1.busy = false ∧ ∃ s t c, Legal s ∧ c.rst = false ∧ c.outReady = true ∧
    s.obufValid = true ∧ s.outCount.toNat + 1 = s.frameN ∧ step (s.present c) = .next t ∧
    c.reg = some (regWord true 2 5) :=
  ⟨rfl, offered, _, { busyEdge with reg := some (regWord true 2 5) }, offered_legal, rfl, rfl, rfl, rfl, rfl, rfl⟩
theorem witness_SameCycleConsequences_read : ∃ t c, c.rst = false ∧ c.outReady = true ∧
    step (offered.present c) = .next t ∧ c.reg = some (regWord false 1 0) :=
  ⟨_, { busyEdge with reg := some (regWord false 1 0) }, rfl, rfl, rfl, rfl⟩
theorem witness_ResetEdgeResetsEveryField : ∃ c : Cycle, c.rst = true := ⟨{ busyEdge with rst := true }, rfl⟩
theorem witness_ReadStatus : Legal refused1 ∧ Legal run1 ∧ State.reset.busy = false ∧ State.reset.width = 0 :=
  ⟨refused1_legal, run1_legal, rfl, rfl⟩
theorem witness_ReadFrameRegisters : idle1.busy = false := rfl
theorem witness_ReadCounters : idle1.busy = false ∧ Legal run1 := ⟨rfl, run1_legal⟩
theorem witness_ReadConstantRegisters : State.reset.params.maxWidth = 2048 := rfl
theorem witness_ReadReserved : 9 ≤ (9#6).toNat ∧ 9 ≤ (63#6).toNat := by decide
theorem witness_WritesWithoutEffect : 5 ≤ (5#6).toNat ∧ (8#6).toNat ≤ 8 ∧ 9 ≤ (9#6).toNat := by decide
theorem witness_WriteCtrl : (0xFFFFFFFE#32).getLsbD 0 = false := by decide
theorem witness_WriteStatusClears : Legal run1 ∧ run1.busy = true ∧ Legal refused1 ∧ statusValue refused1 = 0x14 :=
  ⟨run1_legal, rfl, refused1_legal, by decide⟩
theorem witness_WriteFrameRegisters : run0.busy = true ∧ idle1.busy = false := ⟨rfl, rfl⟩
/-- 4·W·H = 2^32 exactly, the least product no LENGTH can match. -/
theorem witness_StartCheckIsExact : 2 ^ 32 ≤ 4 * (32768#16).toNat * (32768#16).toNat := by decide
/-- The widest frame of MAX_WIDTH = 2048 passes. -/
theorem witness_StartAcceptsValidFrame : ∃ s : State, s.busy = false ∧ 1 ≤ s.width.toNat ∧ 1 ≤ s.height.toNat ∧
    s.length.toNat = 4 * s.width.toNat * s.height.toNat ∧ s.width.toNat = s.params.maxWidth.toNat :=
  ⟨{ State.reset with width := 2048, height := 65535, length := 536862720 }, rfl, by decide, by decide, by decide,
    by decide⟩
theorem witness_StartWhileBusyIsIgnored : run0.busy = true := rfl
theorem witness_StartRecordsRefusedFrame_zero : ∃ s : State, s.busy = false ∧ s.width.toNat = 0 ∧ s.height.toNat = 5 :=
  ⟨{ State.reset with height := 5 }, rfl, rfl, rfl⟩
theorem witness_StartRecordsRefusedFrame_length : ∃ s : State, s.busy = false ∧
    ¬(s.width.toNat = 0 ∨ s.height.toNat = 0) ∧ s.length.toNat + 1 = 4 * s.width.toNat * s.height.toNat :=
  ⟨{ State.reset with width := 2, height := 2, length := 15 }, rfl, by decide, by decide⟩
theorem witness_StartRecordsRefusedFrame_limit : ∃ s : State, s.busy = false ∧
    ¬(s.width.toNat = 0 ∨ s.height.toNat = 0) ∧ s.length.toNat = 4 * s.width.toNat * s.height.toNat ∧
    s.width.toNat = s.params.maxWidth.toNat + 1 :=
  ⟨{ State.reset with width := 2049, height := 1, length := 8196 }, rfl, by decide, by decide, by decide⟩
theorem witness_StartRecordsRefusedFrame_example : ∃ s : State, s.busy = false ∧
    s.width.toNat = s.params.maxWidth.toNat + 1 ∧ s.height = 1 ∧ s.length = 0 :=
  ⟨{ State.reset with width := 2049, height := 1 }, rfl, by decide, rfl, rfl⟩
theorem witness_RefusedFrameMovesNoPixel : ∃ s t, Legal s ∧ s.busy = false ∧
    startCheck s.params s.width s.height s.length ≠ 0 ∧ exec (.start 1) s = .next t :=
  ⟨refused1, _, refused1_legal, rfl, by decide, rfl⟩
theorem witness_PixelInRecordsShiftedPixel : run0.inAccept = true ∧ run0.inCount = 0 ∧ run1.inAccept = false := by decide
theorem witness_BeatNotAcceptedStaysWithHost : idle1.busy = false ∧ run1.frameN ≤ run1.inCount.toNat ∧
    startCheck idle1.params idle1.width idle1.height idle1.length = 0 ∧ ∃ t, exec (.start 1) idle1 = .next t :=
  ⟨rfl, by decide, by decide, _, rfl⟩
theorem witness_PixelOutDeliversObuf : ∃ s : State, s.obufValid = true ∧ s.outCount.toNat + 1 ≠ s.frameN :=
  ⟨{ frame7 9 0 with obufValid := true }, rfl, by decide⟩
theorem witness_LastOutputCompletesJob :
    Legal offered ∧ offered.obufValid = true ∧ offered.outCount.toNat + 1 = offered.frameN :=
  ⟨offered_legal, rfl, rfl⟩
theorem witness_EngineOffersReferencePixel : Legal run1 ∧ run1.outOffer = true ∧ run1.obufValid = false ∧
    run0.outOffer = false ∧ Legal offered ∧ offered.obufValid = true :=
  ⟨run1_legal, by decide, rfl, by decide, offered_legal, rfl⟩
theorem witness_OfferedOutputIsHeld : ∃ t c, Legal offered ∧ offered.obufValid = true ∧ c.rst = false ∧
    c.outReady = false ∧ step (offered.present c) = .next t :=
  ⟨_, { busyEdge with outReady := false }, offered_legal, rfl, rfl, rfl, rfl⟩
theorem witness_ShiftLanesAreIndependent : lane 0x12345678 2 = lane 0xFF34FFFF 2 := by decide
theorem witness_InteriorOutputIsWeightedMean : interior 7 7 3 3 = true ∧ interior 10 10 6 3 = true := by decide
theorem witness_BlurIsMonotoneMean : List.Forall₂ (fun v w : Byte => v.toNat ≤ w.toNat) [1, 2] [1, 255] ∧
    ∀ v ∈ [10#8, 20, 30, 40, 50, 60, 70, 80, 90], 10 ≤ v.toNat ∧ v.toNat ≤ 90 :=
  ⟨.cons (by decide) (.cons (by decide) .nil), by decide⟩
theorem witness_BorderAndAlphaArePreserved : interior 10 10 2 5 = false ∧ (6 ≤ 6 ∨ 100 ≤ 6) := by decide
theorem witness_IrqFollowsStatusAndEnables : ∃ s : State, s.done = true ∧ s.busy = false ∧ (6#32).getLsbD 1 = true ∧
    (6#32).getLsbD 2 = true ∧ startCheck s.params s.width s.height s.length = 0 :=
  ⟨{ idle1 with done := true }, rfl, rfl, by decide, by decide, by decide⟩
theorem witness_RegisterReadsHaveNoSideEffect : regWe 0x0100000000 = false := by decide
theorem witness_RegisterTransactionsFrame : ∃ t, exec (decode (.reg 0x4300000007)) idle1 = .next t ∧
    (∀ d, decode (.reg 0x4300000007) = .start d → idle1.busy = true) ∧
    (∀ d, decode (.reg 0x4300000007) ≠ .wrWidth d) ∧ (∀ d, decode (.reg 0x4300000007) ≠ .wrLength d) := by
  have h : decode (.reg 0x4300000007) = .wrHeight 7 := by decide
  exact ⟨_, rfl, by rw [h]; exact fun d e => Instr.noConfusion e, by rw [h]; exact fun d e => Instr.noConfusion e,
    by rw [h]; exact fun d e => Instr.noConfusion e⟩
theorem witness_StepKeepsParametersAndDeliveredBeats : ∃ t, step (run1.present busyEdge) = .next t := ⟨_, rfl⟩
theorem witness_RunningJobIgnoresRegisterTransactions : Legal run1 ∧ run1.busy = true := ⟨run1_legal, rfl⟩
/-- A step into RUN, and a step out of it. -/
theorem witness_OnlyTheseEventsChangeJobState_start : ∃ s t : State, Legal s ∧ s.busy = false ∧
    step (s.present { busyEdge with reg := some 0x4000000001 }) = .next t ∧ t.busy = true :=
  ⟨idle1, _, idle1_legal, rfl, rfl, rfl⟩
theorem witness_OnlyTheseEventsChangeJobState_complete : ∃ t, Legal offered ∧ offered.busy = true ∧
    step (offered.present busyEdge) = .next t ∧ t.busy = false := ⟨_, offered_legal, rfl, rfl, rfl⟩
theorem witness_StepNeverStopsAndKeepsInvariant : Legal run1 ∧ Legal idle1 := ⟨run1_legal, idle1_legal⟩

/-- The offered 1×1 job with its completing edge scheduled. -/
def offeredScheduled : State := offered.present busyEdge

theorem offeredScheduled_legal : Legal offeredScheduled where
  params := by decide
  status := ⟨by decide, by decide, by decide, by decide, by decide⟩
  memory := ⟨by decide, by decide⟩
  countsLe := by decide
  idleEmpty := fun h => absurd h (by decide)
  idleCounts := fun h => absurd h (by decide)
  job := fun _ => run1_job offeredScheduled (by decide) (by decide) (by decide) (by decide) rfl rfl rfl rfl
    fun _ => by decide

theorem witness_CompletedJobComputesApply : ∃ s t, Legal s ∧ s.busy = true ∧ step s = .next t ∧ t.done = true :=
  ⟨offeredScheduled, _, offeredScheduled_legal, rfl, rfl, rfl⟩

/-- The 1×1 job with three cooperative edges scheduled. -/
def cooperative1 : State := { run1 with sched := [busyEdge, busyEdge, busyEdge] }

theorem witness_CooperativeJobCompletes : Legal cooperative1 ∧ cooperative1.busy = true ∧
    (∀ c ∈ cooperative1.sched, c.cooperative = true) ∧ 3 * cooperative1.frameN ≤ cooperative1.sched.length :=
  ⟨{ params := by decide
     status := ⟨by decide, by decide, by decide, by decide, by decide⟩
     memory := ⟨by decide, by decide⟩
     countsLe := by decide
     idleEmpty := fun h => absurd h (by decide)
     idleCounts := fun h => absurd h (by decide)
     job := fun _ => run1_job cooperative1 (by decide) (by decide) (by decide) (by decide) rfl rfl rfl rfl
       fun h => absurd h (by decide) }, rfl, by decide, by decide⟩

/-- The block after P1's job: what the completing edge leaves, `n` edges later. -/
def finished (n : Nat) : State :=
  { idle1 with
    done := true, inCount := 1, outCount := 1, obufWord := 0x7F9BFA6E, hist := [(0, 0x7F9BFA6E)]
    inPix := [(0, 0x7F05C80A)], taken := [0x7F9BFA6E], freeIx := n }

/-- The run of the 1×1 job from its offered output, over edges at which host and engine do what they can. -/
def finishingRun : Nat → State
  | 0 => offered
  | n + 1 => finished (n + 1)

/-- An edge at which host and engine do what they can and the register bus is quiet. -/
def servingEdge : Cycle := { busyEdge with reg := none }

theorem finishingRun_isRun : IsRun (fun _ => servingEdge) finishingRun
  | 0 => rfl
  | _ + 1 => rfl

theorem finishingRun_fair : WeaklyFair (fun _ => servingEdge) finishingRun where
  accept := fun n h => ⟨n, Nat.le_refl n, (h n (Nat.le_refl n)).1⟩
  load := fun n _ => ⟨n, Nat.le_refl n, rfl⟩

theorem witness_WeakFairnessBringsProgress : Legal run1 ∧ run1.loadEnabled = true ∧
    (∀ c ∈ run1.sched, c.rst = false) ∧ ∃ edges states, IsRun edges states ∧ WeaklyFair edges states ∧
      HostServes edges states ∧ Legal (states 0) ∧ (states 0).busy = true :=
  ⟨run1_legal, by decide, by decide, _, finishingRun, finishingRun_isRun, finishingRun_fair,
    { offers := fun _ _ => rfl, takes := fun _ _ => rfl, noReset := fun _ => rfl }, offered_legal, rfl⟩
/-- R187: with nothing scheduled the engine still offers the output it may. -/
theorem test_engine_acts_past_the_schedule : after (step run1) (·.obufValid) = some true := by decide
theorem witness_StarvedJobHangs : Legal run0 ∧ run0.busy = true ∧ run0.inCount.toNat < run0.frameN ∧
    Cycle.idle.rst = false ∧ Cycle.idle.inBeat = none := ⟨run0_legal, rfl, by decide, rfl, rfl⟩
theorem witness_LockStepHostDeadlocks : Legal lock1 ∧ lock1.busy = true ∧ 2 ≤ lock1.frameN ∧ lock1.inCount = 1 ∧
    lock1.outCount = 0 ∧ lock1.obufValid = false ∧ Cycle.idle.rst = false ∧ Cycle.idle.inBeat = none :=
  ⟨lock1_legal, rfl, by decide, rfl, rfl, rfl, rfl, rfl⟩
theorem witness_LockStepHostDeadlocks_program : Legal lock0 ∧ lock0.busy = true ∧ 2 ≤ lock0.frameN ∧ lock0.inCount = 0 ∧
    lock0.outCount = 0 ∧ lock0.obufValid = false := ⟨lock0_legal, rfl, by decide, rfl, rfl, rfl⟩
theorem witness_HistFitsLineBuffer : Legal lock1 ∧ lock1.busy = true := ⟨lock1_legal, rfl⟩
theorem witness_OutputDependsOnInputAlone : Legal offered ∧ Legal offeredScheduled ∧ offered.busy = true ∧
    SameJobInput offered offeredScheduled ∧ offered.outCount = offeredScheduled.outCount ∧
    offered.obufValid = true ∧ offeredScheduled.obufValid = true :=
  ⟨offered_legal, offeredScheduled_legal, rfl, ⟨rfl, rfl, fun _ _ _ h1 h2 => Option.some.inj (h1.symm.trans h2)⟩,
    rfl, rfl, rfl⟩
theorem witness_WindowSelectsRegisters :
    wordAddrOf { maxWidth := 8, slack := 0, regBase := 4096 } (4096 + 0xFC) = some 63 := by decide

end Sys2Proof.Tests
end

/-! ### The interrupt output and the CTRL and STATUS writes that move it (R34, R101, R104, R115) -/

section
namespace Sys2Proof.Machine

/-- R34 as a proposition: the two enabled sources of `irq`. -/
theorem irq_eq_true_iff (s : State) :
    irq s = true ↔ (s.done = true ∧ s.doneIe = true) ∨ (s.err = true ∧ s.errIe = true) := by
  unfold irq
  rw [Bool.or_eq_true, Bool.and_eq_true, Bool.and_eq_true]

theorem irq_eq_false_of_done_err {s : State} (hd : s.done = false) (he : s.err = false) : irq s = false := by
  unfold irq
  rw [hd, he, Bool.false_and, Bool.false_and, Bool.or_false]

@[simp] theorem exec_wrCtrl (d : Word) (s : State) : exec (.wrCtrl d) s = .next (s.writeIe d) := rfl

@[simp] theorem exec_wrStatus (d : Word) (s : State) : exec (.wrStatus d) s = .next (s.clearStatus d) := rfl

theorem exec_start_of_idle (d : Word) {s : State} (h : s.busy = false) :
    exec (.start d) s = .next (s.writeIe d).startJob := by
  obtain ⟨hb, -⟩ | ⟨-, he⟩ := execStart_cases d s
  · exact absurd (hb.symm.trans h) (by decide)
  · exact he

theorem State.startJob_of_check_pass {s : State} (h : startCheck s.params s.width s.height s.length = 0) :
    s.startJob = s.clearForStart.acceptJob := by
  obtain ⟨-, hs⟩ | ⟨hne, -⟩ := s.startJob_cases
  · exact hs
  · exact absurd h hne

/-- A START that is accepted (R106). -/
theorem exec_start_of_accepted (d : Word) {s : State} (hb : s.busy = false)
    (hc : startCheck s.params s.width s.height s.length = 0) :
    exec (.start d) s = .next (s.writeIe d).clearForStart.acceptJob := by
  rw [exec_start_of_idle d hb, State.startJob_of_check_pass (s := s.writeIe d) hc]

/-- Settles O44: `irq` by its defining equation; each write then by the DONE, ERR and enable bits it leaves. -/
theorem irqFollowsStatusAndEnables : Obligations.IrqFollowsStatusAndEnables := by
  refine ⟨irq_eq_true_iff, ?enable, ?w1c, ?start⟩
  case enable =>
    intro s d hdone hd
    exact ⟨_, exec_wrCtrl d s, (irq_eq_true_iff _).mpr (.inl ⟨hdone, hd⟩)⟩
  case w1c =>
    intro s d hd1 hd2
    exact ⟨_, exec_wrStatus d s, irq_eq_false_of_done_err (by simp [hd1]) (by simp [hd2])⟩
  case start =>
    intro s d hb hc
    exact ⟨_, exec_start_of_accepted d hb hc, irq_eq_false_of_done_err (by simp) (by simp)⟩

end Sys2Proof.Machine
end

/-! ### The REG word as a number, and the transaction map read column by column (R71, R75) -/

section
namespace Sys2Proof

theorem regWord_toNat (we : Bool) (a : RegAddr) (d : Word) :
    (regWord we a d).toNat = we.toNat * 2 ^ 38 + a.toNat * 2 ^ 32 + d.toNat := by
  rw [regWord, BitVec.toNat_append, ← Nat.shiftLeft_add_eq_or_of_lt d.isLt, BitVec.toNat_append,
    ← Nat.shiftLeft_add_eq_or_of_lt a.isLt, BitVec.toNat_ofBool, Nat.shiftLeft_eq, Nat.shiftLeft_eq]
  omega

/-- A REG word with WE = 0 decodes by A alone: D is ignored (R71). -/
@[simp] theorem decode_reg_read (a : RegAddr) (d : Word) : decode (.reg (regWord false a d)) = decodeRead a := by
  rw [decode, decodeReg, regWe_regWord, regAddr_regWord]
  exact if_neg Bool.false_ne_true

/-- A REG word with WE = 1 decodes by A and D. -/
@[simp] theorem decode_reg_write (a : RegAddr) (d : Word) :
    decode (.reg (regWord true a d)) = decodeWrite a d := by
  rw [decode, decodeReg, regWe_regWord, regAddr_regWord, regData_regWord]
  exact if_pos rfl

theorem decodeRead_of_reserved {a : RegAddr} (h : 9 ≤ a.toNat) : decodeRead a = .rdRsvd a := by
  obtain ⟨n, hn⟩ := Nat.exists_eq_add_of_le' h
  rw [decodeRead, hn]
  rfl

theorem decodeWrite_ctrl_of_bit_clear {d : Word} (h : d.getLsbD 0 = false) : decodeWrite 0 d = .wrCtrl d :=
  if_neg (ne_true_of_eq_false h)

theorem decodeWrite_ctrl_of_bit_set {d : Word} (h : d.getLsbD 0 = true) : decodeWrite 0 d = .start d :=
  if_pos h

theorem decodeWrite_of_readOnly {a : RegAddr} (d : Word) (h5 : 5 ≤ a.toNat) (h8 : a.toNat ≤ 8) :
    decodeWrite a d = .wrRo a d := by
  have ha : a.toNat = 5 ∨ a.toNat = 6 ∨ a.toNat = 7 ∨ a.toNat = 8 := by omega
  rcases ha with h | h | h | h <;> (rw [decodeWrite, h]; rfl)

theorem decodeWrite_of_reserved {a : RegAddr} (d : Word) (h : 9 ≤ a.toNat) : decodeWrite a d = .wrRsvd a d := by
  obtain ⟨n, hn⟩ := Nat.exists_eq_add_of_le' h
  rw [decodeWrite, hn]
  rfl

/-- Settles O2: a word is its three fields; the rows with WE = 0 are then those of `decodeRead`, the rows with WE = 1
those of `decodeWrite`. -/
theorem decoderFollowsTransactionMap : Obligations.DecoderFollowsTransactionMap :=
  ⟨fun w => ⟨regWe w, regAddr w, regData w, (regWord_fields w).symm⟩,
    decode_reg_read 0, decode_reg_read 1, decode_reg_read 2, decode_reg_read 3, decode_reg_read 4,
    decode_reg_read 5, decode_reg_read 6, decode_reg_read 7, decode_reg_read 8,
    fun a d h => (decode_reg_read a d).trans (decodeRead_of_reserved h),
    fun d h => (decode_reg_write 0 d).trans (decodeWrite_ctrl_of_bit_clear h),
    fun d h => (decode_reg_write 0 d).trans (decodeWrite_ctrl_of_bit_set h),
    decode_reg_write 1, decode_reg_write 2, decode_reg_write 3, decode_reg_write 4,
    fun a d h5 h8 => (decode_reg_write a d).trans (decodeWrite_of_readOnly d h5 h8),
    fun a d h => (decode_reg_write a d).trans (decodeWrite_of_reserved d h),
    fun _ => rfl, fun _ => rfl⟩

namespace Machine

/-- Every register read drives a result and changes nothing else (R57, R71); the result is the register's value, or 0
at a reserved address. -/
theorem exec_decodeRead (a : RegAddr) (s : State) : ∃ q : Word, exec (decodeRead a) s = .next (s.answer q) := by
  unfold decodeRead
  split
  · exact ⟨ctrlValue s, rfl⟩
  · exact ⟨statusValue s, rfl⟩
  · exact ⟨s.width.setWidth 32, rfl⟩
  · exact ⟨s.height.setWidth 32, rfl⟩
  · exact ⟨s.length, rfl⟩
  · exact ⟨s.inCount, rfl⟩
  · exact ⟨s.outCount, rfl⟩
  · exact ⟨paramValue s.params, rfl⟩
  · exact ⟨shiftkValue, rfl⟩
  · exact ⟨reservedValue a, rfl⟩

/-- Settles O3: the number and the fields by the laws of `regWord`; a read, which decodes by A alone, by its answer. -/
theorem regWordIsItsThreeFields : Obligations.RegWordIsItsThreeFields := by
  refine ⟨regWord_toNat, ?fields, ?readIgnoresData, ?readAnswers, ?wrWidthTen⟩
  case fields => exact fun we a d => ⟨regWe_regWord we a d, regAddr_regWord we a d, regData_regWord we a d⟩
  case readIgnoresData => exact fun a d d' => (decode_reg_read a d).trans (decode_reg_read a d').symm
  case readAnswers =>
    intro a d s
    rw [decode_reg_read]
    exact exec_decodeRead a s
  case wrWidthTen => decide

end Machine
end Sys2Proof
end

/-! ### Each transaction of the job's control, case by case (R104–R110, R118–R122, R183, R188) -/

section
namespace Sys2Proof.Machine

section
variable {s : State}

/-- R107: a START while the job runs writes the interrupt enables alone. -/
theorem exec_start_of_busy (d : Word) (h : s.busy = true) : exec (.start d) s = .next (s.writeIe d) := by
  obtain ⟨-, he⟩ | ⟨hb, -⟩ := execStart_cases d s
  · exact he
  · exact absurd (hb.symm.trans h) (by decide)

theorem State.startJob_of_check_fail (h : startCheck s.params s.width s.height s.length ≠ 0) :
    s.startJob = s.clearForStart.raiseInvalidBitmap (startCheck s.params s.width s.height s.length) := by
  obtain ⟨h0, -⟩ | ⟨-, hs⟩ := s.startJob_cases
  · exact absurd h0 h
  · exact hs

/-- A START that is refused (R104, R108, R214). -/
theorem exec_start_of_refused (d : Word) (hb : s.busy = false)
    (hc : startCheck s.params s.width s.height s.length ≠ 0) :
    exec (.start d) s = .next ((s.writeIe d).clearForStart.raiseInvalidBitmap
      (startCheck s.params s.width s.height s.length)) := by
  rw [exec_start_of_idle d hb, State.startJob_of_check_fail (s := s.writeIe d) hc]
  rfl

/-- R115: write-1-to-clear as one update of DONE, ERR and ERRCODE. -/
theorem State.clearStatus_eq (d : Word) (s : State) : s.clearStatus d = { s with
    done := s.done && !d.getLsbD 1, err := s.err && !d.getLsbD 2
    errcode := if d.getLsbD 2 = true then 0 else s.errcode } := by
  unfold State.clearStatus
  cases d.getLsbD 1 <;> cases d.getLsbD 2 <;> simp [State.clearDone, State.clearErr]

theorem exec_wrWidth_of_busy (d : Word) (h : s.busy = true) : exec (.wrWidth d) s = .next s :=
  congrArg _ (if_pos h)

theorem exec_wrWidth_of_idle (d : Word) (h : s.busy = false) :
    exec (.wrWidth d) s = .next { s with width := dimField d } := congrArg _ (if_neg (ne_true_of_eq_false h))

theorem exec_wrHeight_of_busy (d : Word) (h : s.busy = true) : exec (.wrHeight d) s = .next s :=
  congrArg _ (if_pos h)

theorem exec_wrHeight_of_idle (d : Word) (h : s.busy = false) :
    exec (.wrHeight d) s = .next { s with height := dimField d } := congrArg _ (if_neg (ne_true_of_eq_false h))

theorem exec_wrLength_of_busy (d : Word) (h : s.busy = true) : exec (.wrLength d) s = .next s :=
  congrArg _ (if_pos h)

theorem exec_wrLength_of_idle (d : Word) (h : s.busy = false) :
    exec (.wrLength d) s = .next { s with length := d } := congrArg _ (if_neg (ne_true_of_eq_false h))

theorem exec_pixelIn_of_accept (w : Word) (h : s.inAccept = true) :
    exec (.pixelIn w) s = .next (s.recordInput w (shift w)) := if_pos h

theorem exec_pixelIn_of_wait (w : Word) (h : s.inAccept = false) : exec (.pixelIn w) s = .next s :=
  if_neg (ne_true_of_eq_false h)

theorem exec_pixelOut_of_wait (h : s.obufValid = false) : exec .pixelOut s = .next s :=
  if_neg (ne_true_of_eq_false h)

theorem exec_pixelOut_of_last (h : s.obufValid = true) (hn : s.outCount.toNat + 1 = s.frameN) :
    exec .pixelOut s = .next s.deliver.complete := (if_pos h).trans (if_pos hn)

theorem exec_pixelOut_of_not_last (h : s.obufValid = true) (hn : s.outCount.toNat + 1 ≠ s.frameN) :
    exec .pixelOut s = .next s.deliver := (if_pos h).trans (if_neg hn)

/-- An idle block accepts no input beat (R182). -/
theorem State.inAccept_of_idle (h : s.busy = false) : s.inAccept = false := by
  rw [State.inAccept, h, Bool.false_and, Bool.false_and]

/-- An idle block offers no output (R187). -/
theorem State.outOffer_of_idle (h : s.busy = false) : s.outOffer = false := by
  rw [State.outOffer, h, Bool.false_and, Bool.false_and]

theorem inReady_of_idle (c : Cycle) (h : s.busy = false) : inReady c s = false := by
  rw [inReady, State.inAccept_of_idle h, Bool.and_false]

theorem engineLoad_of_loaded {w : Word} (ho : s.outOffer = true) (hv : s.obufValid = false)
    (hw : outWord s s.outCount.toNat = .ok w) : engineLoad s = .next (s.loadObuf w) := by
  rw [engineLoad, ho, hv, hw]
  rfl

theorem engineLoad_of_not_enabled (h : s.outOffer = false ∨ s.obufValid = true) : engineLoad s = .next s := by
  rcases h with h | h <;> simp [engineLoad, h]

/-- A valid OBUF belongs to a running job (R37). -/
theorem Legal.busy_of_obufValid (hs : Legal s) (h : s.obufValid = true) : s.busy = true := by
  cases hb : s.busy
  · exact absurd (hs.idleEmpty hb) (by simp [h])
  · rfl

end

/-- While a job runs, a register write changes the enables, DONE, ERR and ERRCODE at most (R107, R115, R118–R122). -/
theorem exec_decodeWrite_of_busy (a : RegAddr) (d : Word) {s : State} (hb : s.busy = true) :
    ∃ t, exec (decodeWrite a d) s = .next t ∧
      t = { s with
        doneIe := t.doneIe, errIe := t.errIe, done := t.done, err := t.err, errcode := t.errcode, regQ := t.regQ } := by
  unfold decodeWrite
  split
  · split
    · exact ⟨_, exec_start_of_busy d hb, rfl⟩
    · exact ⟨_, exec_wrCtrl d s, rfl⟩
  · exact ⟨_, (exec_wrStatus d s).trans (congrArg _ (State.clearStatus_eq d s)), rfl⟩
  · exact ⟨s, exec_wrWidth_of_busy d hb, rfl⟩
  · exact ⟨s, exec_wrHeight_of_busy d hb, rfl⟩
  · exact ⟨s, exec_wrLength_of_busy d hb, rfl⟩
  all_goals exact ⟨s, rfl, rfl⟩

/-- While a job runs, a REG transaction leaves the job alone: it changes the enables, DONE, ERR, ERRCODE and the driven
result at most. -/
theorem regPhase_of_busy {c : Cycle} {s t : State} (h : regPhase c s = .next t) (hb : s.busy = true) :
    t = { s with
      doneIe := t.doneIe, errIe := t.errIe, done := t.done, err := t.err, errcode := t.errcode, regQ := t.regQ } := by
  unfold regPhase at h
  split at h
  next => cases h; rfl
  next w _ =>
    rw [← regWord_fields w] at h
    cases hwe : regWe w with
    | false =>
      rw [hwe, decode_reg_read] at h
      obtain ⟨q, hq⟩ := exec_decodeRead (regAddr w) s
      cases hq.symm.trans h
      rfl
    | true =>
      rw [hwe, decode_reg_write] at h
      obtain ⟨u, hu, hf⟩ := exec_decodeWrite_of_busy (regAddr w) (regData w) hb
      cases hu.symm.trans h
      exact hf

end Sys2Proof.Machine
end

/-! ### The register reads of job control (R100, R102, R117–R128) -/

section
namespace Sys2Proof.Machine

section
variable (s : State)

theorem ctrlValue_bits : (ctrlValue s).getLsbD 0 = false ∧ (ctrlValue s).getLsbD 1 = s.doneIe ∧
    (ctrlValue s).getLsbD 2 = s.errIe := by
  simp only [ctrlValue, BitVec.getLsbD_setWidth, BitVec.getLsbD_append]
  simp

theorem ctrlValue_reserved {i : Nat} (h : 3 ≤ i) : (ctrlValue s).getLsbD i = false := by
  rw [ctrlValue, BitVec.getLsbD_setWidth, BitVec.getLsbD_of_ge _ _ h, Bool.and_false]

theorem statusValue_bits : (statusValue s).getLsbD 0 = s.busy ∧ (statusValue s).getLsbD 1 = s.done ∧
    (statusValue s).getLsbD 2 = s.err ∧ (statusValue s).getLsbD 3 = false := by
  simp only [statusValue, BitVec.getLsbD_setWidth, BitVec.getLsbD_append]
  simp

theorem statusValue_errcode {i : Nat} (h : i < 4) :
    (statusValue s).getLsbD (4 + i) = s.errcode.getLsbD i := by
  have h32 : 4 + i < 32 := by omega
  rw [statusValue, BitVec.getLsbD_setWidth, decide_eq_true h32, Bool.true_and, BitVec.append_assoc,
    BitVec.append_assoc, BitVec.append_assoc]
  simp only [BitVec.getLsbD_cast]
  rw [BitVec.getLsbD_append, if_neg (by omega)]
  congr 1
  omega

theorem statusValue_reserved {i : Nat} (h : 8 ≤ i) : (statusValue s).getLsbD i = false := by
  rw [statusValue, BitVec.getLsbD_setWidth, BitVec.getLsbD_of_ge _ _ h, Bool.and_false]

end

section
variable {s : State}

theorem statusValue_of_fields {code : BitVec 4} {err done busy : Bool} {v : Word} (hc : s.errcode = code)
    (he : s.err = err) (hd : s.done = done) (hb : s.busy = busy)
    (hv : (code ++ 0#1 ++ BitVec.ofBool err ++ BitVec.ofBool done ++ BitVec.ofBool busy).setWidth 32 = v) :
    statusValue s = v := by
  rw [statusValue, hc, he, hd, hb, hv]

theorem exec_rdCtrl_of_value {v : Word} (h : ctrlValue s = v) : exec .rdCtrl s = .next (s.answer v) := h ▸ rfl

theorem exec_rdStatus_of_value {v : Word} (h : statusValue s = v) : exec .rdStatus s = .next (s.answer v) := h ▸ rfl

theorem StatusLegal.errcode_of_noErr (h : StatusLegal s) (he : s.err = false) : s.errcode = 0 := by
  by_contra hne
  exact absurd (he.symm.trans (h.errcodeIff.mp hne)) (by decide)

theorem StatusLegal.errcode_of_err (h : StatusLegal s) (he : s.err = true) : s.errcode = 1 ∨ s.errcode = 2 := by
  have hne := h.errcodeIff.mpr he
  have hle := h.errcodeLe
  bv_omega

theorem StatusLegal.clear_of_busy (h : StatusLegal s) (hb : s.busy = true) :
    s.done = false ∧ s.err = false ∧ s.errcode = 0 := by
  have hd : s.done = false := eq_false_of_ne_true fun hd => h.notBusyDone ⟨hb, hd⟩
  have he : s.err = false := eq_false_of_ne_true fun he => h.notBusyErr ⟨hb, he⟩
  exact ⟨hd, he, h.errcode_of_noErr he⟩

theorem StatusLegal.statusValue_of_busy (h : StatusLegal s) (hb : s.busy = true) : statusValue s = 0x01 := by
  obtain ⟨hd, he, hc⟩ := h.clear_of_busy hb
  exact statusValue_of_fields hc he hd hb (by decide)

/-- The five values of STATUS that R102 lists: idle, running, done, and the two errors of R211. -/
theorem StatusLegal.statusValue_cases (h : StatusLegal s) :
    statusValue s = 0x00 ∧ s.busy = false ∨ statusValue s = 0x01 ∧ s.busy = true ∨
    statusValue s = 0x02 ∧ s.done = true ∨ statusValue s = 0x14 ∧ s.errcode = 1 ∨
    statusValue s = 0x24 ∧ s.errcode = 2 := by
  cases hb : s.busy with
  | true => exact .inr (.inl ⟨h.statusValue_of_busy hb, rfl⟩)
  | false =>
    cases he : s.err with
    | false =>
      have hc := h.errcode_of_noErr he
      cases hd : s.done with
      | false => exact .inl ⟨statusValue_of_fields hc he hd hb (by decide), rfl⟩
      | true => exact .inr (.inr (.inl ⟨statusValue_of_fields hc he hd hb (by decide), rfl⟩))
    | true =>
      have hd : s.done = false := eq_false_of_ne_true fun hd => h.notDoneErr ⟨hd, he⟩
      rcases h.errcode_of_err he with hc | hc
      · exact .inr (.inr (.inr (.inl ⟨statusValue_of_fields hc he hd hb (by decide), hc⟩)))
      · exact .inr (.inr (.inr (.inr ⟨statusValue_of_fields hc he hd hb (by decide), hc⟩)))

end

/-- R213: a zero width is refused with code 1, before anything else is looked at. -/
theorem startCheck_of_width_zero (p : Config.Params) (H : BitVec 16) (L : BitVec 32) : startCheck p 0 H L = 1 :=
  if_pos (.inl rfl)

/-- Settles O12: the bits of `ctrlValue`. -/
theorem readCtrl : Obligations.ReadCtrl := by
  refine ⟨decode_reg_read 0, fun s => ⟨ctrlValue s, rfl, ?bits⟩, fun s => ⟨s.writeIe 6, exec_wrCtrl 6 s, ?six⟩⟩
  case bits =>
    obtain ⟨h0, h1, h2⟩ := ctrlValue_bits s
    exact ⟨h0, h1, h2, fun _ => ctrlValue_reserved s⟩
  case six =>
    apply exec_rdCtrl_of_value
    rw [ctrlValue, State.writeIe_errIe, State.writeIe_doneIe]
    decide

/-- Settles O13: the bits of `statusValue`, and its five values in a legal state. -/
theorem readStatus : Obligations.ReadStatus := by
  refine ⟨decode_reg_read 1, fun s => ⟨statusValue s, rfl, ?bits⟩, fun s hs => hs.status.statusValue_cases, ?failed⟩
  case bits =>
    obtain ⟨h0, h1, h2, h3⟩ := statusValue_bits s
    exact ⟨h0, h1, h2, h3, fun _ => statusValue_errcode s, fun _ => statusValue_reserved s⟩
  case failed =>
    intro s d hb hw
    have hcode : startCheck s.params s.width s.height s.length = 1 := hw ▸ startCheck_of_width_zero ..
    refine ⟨_, exec_start_of_refused d hb (by rw [hcode]; decide), ?_⟩
    exact exec_rdStatus_of_value (statusValue_of_fields (err := true) (done := false) hcode rfl rfl hb (by decide))

/-- Settles O14: each read answers its field, which the writes of the examples have just stored. -/
theorem readFrameRegisters : Obligations.ReadFrameRegisters := by
  refine ⟨fun d => ⟨decode_reg_read 2 d, decode_reg_read 3 d, decode_reg_read 4 d⟩, ?width, ?height, fun _ => rfl,
    fun s hb => ⟨⟨_, exec_wrWidth_of_idle _ hb, rfl⟩, ⟨_, exec_wrHeight_of_idle _ hb, rfl⟩,
      ⟨_, exec_wrLength_of_idle _ hb, rfl⟩⟩⟩
  case width => exact fun s => ⟨s.width.setWidth 32, BitVec.toNat_setWidth_of_le (by decide), rfl⟩
  case height => exact fun s => ⟨s.height.setWidth 32, BitVec.toNat_setWidth_of_le (by decide), rfl⟩

/-- R125: the constant fields of PARAM over MAX_WIDTH. -/
theorem paramValue_eq_or (p : Config.Params) : paramValue p = 0x04030000#32 ||| p.maxWidth.setWidth 32 := by
  rw [paramValue, BitVec.append_def]
  rfl

/-- Settles O16: PARAM by its fields, SHIFTK by its value. -/
theorem readConstantRegisters : Obligations.ReadConstantRegisters := by
  have hparam (s : State) :
      exec .rdParam s = .next { s with regQ := some (0x04030000#32 ||| s.params.maxWidth.setWidth 32) } := by
    rw [← paramValue_eq_or]
    rfl
  refine ⟨fun d => ⟨decode_reg_read 7 d, decode_reg_read 8 d⟩, hparam, ?example2048, ?shiftk, by decide⟩
  case example2048 =>
    intro s h
    rw [hparam, h]
    rfl
  case shiftk =>
    intro s
    have hk : shiftkValue = 0x00963264 := by decide
    rw [← hk]
    rfl

/-- Settles O17: a reserved address decodes to RD_RSVD, whose result is 0. -/
theorem readReserved : Obligations.ReadReserved :=
  ⟨fun a d h => (decode_reg_read a d).trans (decodeRead_of_reserved h), fun _ _ => rfl, by decide⟩

end Sys2Proof.Machine
end

/-! ### The register writes other than START (R101, R115, R118, R120, R122, R127, R129) -/

section
namespace Sys2Proof.Machine

/-- R115 in RUN: with nothing to clear, write-1-to-clear has no effect. -/
theorem State.clearStatus_of_clear {s : State} (d : Word) (hd : s.done = false) (he : s.err = false)
    (hc : s.errcode = 0) : s.clearStatus d = s := by
  rw [State.clearStatus_eq, hd, he, hc]
  cases s
  simp_all

theorem dimField_toNat (d : Word) : (dimField d).toNat = d.toNat % 2 ^ 16 := by
  rw [dimField, BitVec.extractLsb'_toNat, Nat.shiftRight_zero]

/-- Settles O18: the addresses decode to WR_RO and WR_RSVD, which leave the state as it is. -/
theorem writesWithoutEffect : Obligations.WritesWithoutEffect :=
  ⟨fun a d h5 h8 => (decode_reg_write a d).trans (decodeWrite_of_readOnly d h5 h8), fun _ _ _ => rfl,
    fun a d h => (decode_reg_write a d).trans (decodeWrite_of_reserved d h), fun _ _ _ => rfl, by decide, by decide⟩

/-- Settles O19: WR_CTRL is `writeIe`. -/
theorem writeCtrl : Obligations.WriteCtrl :=
  ⟨fun d h => (decode_reg_write 0 d).trans (decodeWrite_ctrl_of_bit_clear h), fun d s => exec_wrCtrl d s, by decide,
    fun s => exec_wrCtrl 2 s⟩

/-- Settles O20: `clearStatus` as one update; a running job has nothing that it could clear. -/
theorem writeStatusClears : Obligations.WriteStatusClears := by
  refine ⟨decode_reg_write 1, ?clears, ?inRun, fun _ => rfl, ?refused⟩
  case clears =>
    intro d s
    refine ⟨_, (exec_wrStatus d s).trans (congrArg _ (State.clearStatus_eq d s)), rfl, ?_, ?_, rfl⟩
    · cases d.getLsbD 1 <;> simp
    · cases d.getLsbD 2 <;> simp
  case inRun =>
    intro d s hs hb
    obtain ⟨hd, he, hc⟩ := hs.status.clear_of_busy hb
    exact congrArg _ (State.clearStatus_of_clear d hd he hc)
  case refused =>
    intro s _ hv
    obtain ⟨hbusy, hdone, -, -⟩ := statusValue_bits s
    rw [hv] at hbusy hdone
    have hc : (s.clearStatus 4).errcode = 0 := (State.clearStatus_errcode s 4).trans (if_pos (by decide))
    have hd : (s.clearStatus 4).done = false := by rw [State.clearStatus_done, ← hdone]; decide
    have he : (s.clearStatus 4).err = false := by rw [State.clearStatus_err]; exact Bool.and_false _
    have hb : (s.clearStatus 4).busy = false := by rw [State.clearStatus_busy, ← hbusy]; decide
    exact ⟨_, exec_wrStatus 4 s, statusValue_of_fields hc he hd hb (by decide)⟩

/-- Settles O21: the two cases of each write, by BUSY. -/
theorem writeFrameRegisters : Obligations.WriteFrameRegisters := by
  refine ⟨fun d => ⟨decode_reg_write 2 d, decode_reg_write 3 d, decode_reg_write 4 d⟩, ?busy, ?idle, by decide,
    by decide, by decide⟩
  case busy => exact fun d s hb => ⟨exec_wrWidth_of_busy d hb, exec_wrHeight_of_busy d hb, exec_wrLength_of_busy d hb⟩
  case idle =>
    exact fun d s hb => ⟨dimField d, dimField_toNat d, exec_wrWidth_of_idle d hb, exec_wrHeight_of_idle d hb,
      exec_wrLength_of_idle d hb⟩

end Sys2Proof.Machine
end

/-! ### START and its check (R104–R108) -/

section
namespace Sys2Proof.Machine

/-- R105, R213: the outcomes of the check, which exclude each other. -/
theorem startCheck_cases (p : Config.Params) (W H : BitVec 16) (L : BitVec 32) :
    ((W.toNat = 0 ∨ H.toNat = 0 ∨ L.toNat ≠ 4 * W.toNat * H.toNat) ∧ startCheck p W H L = 1) ∨
    ((1 ≤ W.toNat ∧ 1 ≤ H.toNat ∧ L.toNat = 4 * W.toNat * H.toNat) ∧ p.maxWidth.toNat < W.toNat ∧
      startCheck p W H L = 2) ∨
    ((1 ≤ W.toNat ∧ 1 ≤ H.toNat ∧ L.toNat = 4 * W.toNat * H.toNat) ∧ W.toNat ≤ p.maxWidth.toNat ∧
      startCheck p W H L = 0) := by
  unfold startCheck
  rw [channels_eq]
  split
  · exact .inl ⟨by omega, rfl⟩
  split
  · exact .inl ⟨by omega, rfl⟩
  split
  · exact .inr (.inl ⟨by omega, by omega, rfl⟩)
  · exact .inr (.inr ⟨by omega, by omega, rfl⟩)

theorem startCheck_eq_zero_iff (p : Config.Params) (W H : BitVec 16) (L : BitVec 32) :
    startCheck p W H L = 0 ↔ 1 ≤ W.toNat ∧ 1 ≤ H.toNat ∧ L.toNat = 4 * W.toNat * H.toNat ∧
      W.toNat ≤ p.maxWidth.toNat := by
  obtain ⟨h, hc⟩ | ⟨h, hw, hc⟩ | ⟨h, hw, hc⟩ := startCheck_cases p W H L <;> rw [hc]
  · exact iff_of_false (by decide) (by omega)
  · exact iff_of_false (by decide) (by omega)
  · exact iff_of_true rfl (by omega)

theorem startCheck_eq_one_iff (p : Config.Params) (W H : BitVec 16) (L : BitVec 32) :
    startCheck p W H L = 1 ↔ W.toNat = 0 ∨ H.toNat = 0 ∨ L.toNat ≠ 4 * W.toNat * H.toNat := by
  obtain ⟨h, hc⟩ | ⟨h, hw, hc⟩ | ⟨h, hw, hc⟩ := startCheck_cases p W H L <;> rw [hc]
  · exact iff_of_true rfl h
  · exact iff_of_false (by decide) (by omega)
  · exact iff_of_false (by decide) (by omega)

theorem startCheck_eq_two_iff (p : Config.Params) (W H : BitVec 16) (L : BitVec 32) :
    startCheck p W H L = 2 ↔ 1 ≤ W.toNat ∧ 1 ≤ H.toNat ∧ L.toNat = 4 * W.toNat * H.toNat ∧
      p.maxWidth.toNat < W.toNat := by
  obtain ⟨h, hc⟩ | ⟨h, hw, hc⟩ | ⟨h, hw, hc⟩ := startCheck_cases p W H L <;> rw [hc]
  · exact iff_of_false (by decide) (by omega)
  · exact iff_of_true rfl (by omega)
  · exact iff_of_false (by decide) (by omega)

/-- A START on an idle block leaves in ERRCODE what the check gives, 0 where it passes (R104, R214). -/
theorem exec_start_errcode (d : Word) {s : State} (hb : s.busy = false) :
    ∃ t, exec (.start d) s = .next t ∧ t.errcode = startCheck s.params s.width s.height s.length := by
  by_cases hc : startCheck s.params s.width s.height s.length = 0
  · exact ⟨_, exec_start_of_accepted d hb hc, hc.symm⟩
  · exact ⟨_, exec_start_of_refused d hb hc, rfl⟩

/-- Settles O22: each code by its condition; LENGTH has 32 bits, so it equals no product of 2^32 or more. -/
theorem startCheckIsExact : Obligations.StartCheckIsExact := by
  intro p W H L
  refine ⟨startCheck_eq_zero_iff p W H L, startCheck_eq_one_iff p W H L, startCheck_eq_two_iff p W H L, ?noWrap, ?start⟩
  case noWrap =>
    intro hbig
    have hL := L.isLt
    exact (startCheck_eq_one_iff p W H L).mpr (.inr (.inr (by omega)))
  case start =>
    rintro d s hb rfl rfl rfl rfl
    exact exec_start_errcode d hb

/-- Settles O23: the frame passes the check, and the accepted job then holds WIDTH, HEIGHT and LENGTH by its BUSY. -/
theorem startAcceptsValidFrame : Obligations.StartAcceptsValidFrame := by
  intro d s hb hw hh hl hmax
  have hc := (startCheck_eq_zero_iff s.params s.width s.height s.length).mpr ⟨hw, hh, hl, hmax⟩
  exact ⟨_, exec_start_of_accepted d hb hc, fun _ => rfl, rfl, fun e =>
    ⟨exec_wrWidth_of_busy e rfl, exec_wrHeight_of_busy e rfl, exec_wrLength_of_busy e rfl⟩⟩

/-- Settles O24: a START while BUSY is `writeIe` alone. -/
theorem startWhileBusyIsIgnored : Obligations.StartWhileBusyIsIgnored := fun d _ hb => exec_start_of_busy d hb

/-- Settles O26: the refused START leaves the block idle, and OBUF as empty as it was. -/
theorem refusedFrameMovesNoPixel : Obligations.RefusedFrameMovesNoPixel := by
  intro d s t hs hb hc h
  cases (exec_start_of_refused d hb hc).symm.trans h
  have hv := hs.idleEmpty hb
  exact ⟨hb, fun c => inReady_of_idle c hb, hv, State.outOffer_of_idle hb, rfl, rfl,
    fun w => exec_pixelIn_of_wait w (State.inAccept_of_idle hb), exec_pixelOut_of_wait hv⟩

end Sys2Proof.Machine
end

/-! ### Completion (R110) -/

section
namespace Sys2Proof.Machine

/-- R187: the last output is offered only after all inputs are accepted. -/
theorem Legal.inCount_of_last {s : State} (hs : Legal s) (hv : s.obufValid = true)
    (hn : s.outCount.toNat + 1 = s.frameN) : s.inCount.toNat = s.frameN := by
  have hjob := hs.job (hs.busy_of_obufValid hv)
  have hle := hjob.inLe
  have hoffer := (hjob.obuf hv).1
  simp only [State.outOffer, State.avail, Bool.and_eq_true, decide_eq_true_eq] at hoffer
  omega

/-- The HIST entries an output can still reach outlive a delivery (R35). -/
theorem State.read_deliver_hist (s : State) {q : Nat} (hq : s.outCount.toNat ≤ q + s.width.toNat) :
    Memory.read s.deliver.hist q = Memory.read s.hist q := by
  have hle : (s.outCount + 1).toNat ≤ s.outCount.toNat + 1 := Nat.mod_le _ _
  rw [State.deliver_hist, Memory.read_dropBelow, if_pos (by omega)]

/-- Settles O31: OUT_COUNT + 1 is N, which IN_COUNT already is, so neither counter wraps. -/
theorem lastOutputCompletesJob : Obligations.LastOutputCompletesJob := by
  intro s hs hv hn
  have hin := hs.inCount_of_last hv hn
  have hout : (s.outCount + 1).toNat = s.outCount.toNat + 1 := by
    have := s.inCount.isLt
    bv_omega
  exact ⟨_, exec_pixelOut_of_last hv hn, hin, hout.trans hn, rfl, fun _ => s.read_deliver_hist⟩

end Sys2Proof.Machine
end

/-! ### The events of one clock edge, in the order of R116 -/

section
namespace Sys2Proof.Machine

/-- `s` with other values in the model's own bookkeeping: the driven read result, the free-value counter and the
schedule. -/
def State.withBook (s : State) (q : Option Word) (f : Nat) (l : List Cycle) : State :=
  { s with regQ := q, freeIx := f, sched := l }

section
variable {s t : State} (q : Option Word) (f : Nat) (l : List Cycle)

theorem State.startJob_withBook (s : State) : (s.withBook q f l).startJob = s.startJob.withBook q f l := by
  obtain ⟨h, hs⟩ | ⟨h, hs⟩ := s.startJob_cases
  · rw [hs]
    exact State.startJob_of_check_pass (s := s.withBook q f l) h
  · rw [hs]
    exact State.startJob_of_check_fail (s := s.withBook q f l) h

theorem State.clearStatus_withBook (d : Word) (s : State) :
    (s.withBook q f l).clearStatus d = (s.clearStatus d).withBook q f l := by
  rw [State.clearStatus_eq, State.clearStatus_eq]
  rfl

theorem State.writeWidth_withBook (d : Word) (s : State) :
    (s.withBook q f l).writeWidth d = (s.writeWidth d).withBook q f l := by
  cases hb : s.busy <;> simp [State.writeWidth, State.withBook, hb]

theorem State.writeHeight_withBook (d : Word) (s : State) :
    (s.withBook q f l).writeHeight d = (s.writeHeight d).withBook q f l := by
  cases hb : s.busy <;> simp [State.writeHeight, State.withBook, hb]

theorem State.writeLength_withBook (d : Word) (s : State) :
    (s.withBook q f l).writeLength d = (s.writeLength d).withBook q f l := by
  cases hb : s.busy <;> simp [State.writeLength, State.withBook, hb]

theorem exec_start_withBook (d : Word) (h : exec (.start d) s = .next t) :
    exec (.start d) (s.withBook q f l) = .next (t.withBook q f l) := by
  cases hb : s.busy
  · cases (exec_start_of_idle d hb).symm.trans h
    rw [exec_start_of_idle (s := s.withBook q f l) d hb, ← State.startJob_withBook]
    rfl
  · cases (exec_start_of_busy d hb).symm.trans h
    exact exec_start_of_busy (s := s.withBook q f l) d hb

theorem exec_pixelIn_withBook (w : Word) (h : exec (.pixelIn w) s = .next t) :
    exec (.pixelIn w) (s.withBook q f l) = .next (t.withBook q f l) := by
  cases ha : s.inAccept
  · cases (exec_pixelIn_of_wait w ha).symm.trans h
    exact exec_pixelIn_of_wait (s := s.withBook q f l) w ha
  · cases (exec_pixelIn_of_accept w ha).symm.trans h
    exact exec_pixelIn_of_accept (s := s.withBook q f l) w ha

theorem exec_pixelOut_withBook (h : exec .pixelOut s = .next t) :
    exec .pixelOut (s.withBook q f l) = .next (t.withBook q f l) := by
  obtain ⟨hv, hn, he⟩ | ⟨hv, hn, he⟩ | ⟨hv, he⟩ := execPixelOut_cases s
  · cases he.symm.trans h
    exact exec_pixelOut_of_last (s := s.withBook q f l) hv hn
  · cases he.symm.trans h
    exact exec_pixelOut_of_not_last (s := s.withBook q f l) hv hn
  · cases he.symm.trans h
    exact exec_pixelOut_of_wait (s := s.withBook q f l) hv

/-- No instruction takes notice of the bookkeeping. -/
theorem exec_withBook (i : Instr) (h : exec i s = .next t) :
    ∃ q', exec i (s.withBook q f l) = .next (t.withBook q' f l) := by
  cases i with
  | start d => exact ⟨q, exec_start_withBook q f l d h⟩
  | wrCtrl d => cases h; exact ⟨q, rfl⟩
  | wrStatus d => cases h; exact ⟨q, congrArg _ (State.clearStatus_withBook q f l d s)⟩
  | wrWidth d => cases h; exact ⟨q, congrArg _ (State.writeWidth_withBook q f l d s)⟩
  | wrHeight d => cases h; exact ⟨q, congrArg _ (State.writeHeight_withBook q f l d s)⟩
  | wrLength d => cases h; exact ⟨q, congrArg _ (State.writeLength_withBook q f l d s)⟩
  | wrRo a d => cases h; exact ⟨q, rfl⟩
  | wrRsvd a d => cases h; exact ⟨q, rfl⟩
  | pixelIn w => exact ⟨q, exec_pixelIn_withBook q f l w h⟩
  | pixelOut => exact ⟨q, exec_pixelOut_withBook q f l h⟩
  | _ => cases h; exact ⟨some _, rfl⟩

theorem regPhase_withBook {c : Cycle} (h : regPhase c s = .next t) :
    ∃ q', regPhase c (s.withBook q f l) = .next (t.withBook q' f l) := by
  unfold regPhase at h ⊢
  cases hc : c.reg with
  | none => rw [hc] at h; cases h; exact ⟨q, rfl⟩
  | some w => rw [hc] at h; exact exec_withBook q f l _ h

theorem outPhase_withBook {b : Bool} (h : outPhase b s = .next t) :
    outPhase b (s.withBook q f l) = .next (t.withBook q f l) := by
  obtain ⟨rfl, he⟩ | ⟨rfl, rfl⟩ := outPhase_cases h
  · exact exec_pixelOut_withBook q f l he
  · rfl

theorem engineLoad_withBook (h : engineLoad s = .next t) :
    engineLoad (s.withBook q f l) = .next (t.withBook q f l) := by
  obtain ⟨ho, hv, w, hw, rfl⟩ | ⟨hn, rfl⟩ := engineLoad_cases h
  · exact engineLoad_of_loaded (s := s.withBook q f l) ho hv hw
  · exact engineLoad_of_not_enabled (s := t.withBook q f l) hn

end

/-! #### Edges that carry one event alone -/

theorem andThen_next_right (o : Host.Outcome State Fault Refusal) : andThen o .next = o := by
  cases o <;> rfl

/-- The edge with a REG transaction alone. -/
def Cycle.regOnly (r : Option RegBits) : Cycle := { Cycle.idle with reg := r }

/-- The edge with an output beat alone. -/
def Cycle.outOnly (ready : Bool) : Cycle := { Cycle.idle with outReady := ready }

/-- The edge with an input beat alone, to a willing engine. -/
def Cycle.inOnly (beat : Option Word) : Cycle := { Cycle.idle with inBeat := beat, engineReady := true }

/-- The edge with the engine's load alone. -/
def Cycle.loadOnly (load : Bool) : Cycle := { Cycle.idle with engineLoad := load }

section
variable (c : Cycle) (s : State)

theorem runEdge_regOnly : runEdge (.regOnly c.reg) s = regPhase c s := by
  simp only [runEdge, Cycle.regOnly, Cycle.idle, outPhase, inPhase, enginePhase, Bool.and_false,
    Bool.false_eq_true, if_false, andThen_next]
  exact andThen_next_right _

theorem runEdge_outOnly (b : Bool) : runEdge (.outOnly b) s = outPhase (s.obufValid && b) s := by
  simp only [runEdge, Cycle.outOnly, Cycle.idle, regPhase, inPhase, enginePhase, Bool.false_eq_true,
    if_false, andThen_next]
  exact andThen_next_right _

theorem runEdge_inOnly (w : Option Word) : runEdge (.inOnly w) s = inPhase (.inOnly w) s.inAccept s := by
  simp only [runEdge, Cycle.inOnly, Cycle.idle, regPhase, outPhase, inReady, enginePhase, Bool.and_false, Bool.true_and,
    Bool.false_eq_true, if_false, andThen_next]
  exact andThen_next_right _

theorem runEdge_loadOnly : runEdge (.loadOnly c.engineLoad) s = enginePhase c s := by
  change andThen (outPhase (s.obufValid && false) s) _ = _
  rw [Bool.and_false]
  rfl

end

section
variable {s t : State} {c : Cycle} (q : Option Word) (f : Nat) (l : List Cycle)

/-- A step whose edge stands first in the schedule. -/
theorem step_withBook_cons (s : State) (e : Cycle) :
    step (s.withBook q f (e :: l)) = runEdge e (s.withBook none (f + 1) l) := rfl

theorem step_regOnly (h : regPhase c s = .next t) :
    ∃ q', step (s.withBook q f (.regOnly c.reg :: l)) = .next (t.withBook q' (f + 1) l) := by
  rw [step_withBook_cons, runEdge_regOnly]
  exact regPhase_withBook none (f + 1) l h

/-- An output beat that transfers in the edge of all events also transfers in an edge of its own. -/
theorem step_outOnly {b : Bool} (hv : b = true → s.obufValid = true) (h : outPhase b s = .next t) :
    step (s.withBook q f (.outOnly b :: l)) = .next (t.withBook none (f + 1) l) := by
  have hb : ((s.withBook none (f + 1) l).obufValid && b) = b := by
    cases b
    · exact Bool.and_false _
    · exact (Bool.and_true _).trans (hv rfl)
  rw [step_withBook_cons, runEdge_outOnly, hb]
  exact outPhase_withBook none (f + 1) l h

/-- An input beat that was let through acts by `InAccept` of the state it reaches, in either edge. -/
theorem step_inOnly {r : Bool} (h : inPhase c r s = .next t) :
    step (s.withBook q f (.inOnly (if r = true then c.inBeat else none) :: l)) =
      .next (t.withBook none (f + 1) l) := by
  rw [step_withBook_cons, runEdge_inOnly]
  obtain ⟨w, hc, rfl, he⟩ | ⟨hc, rfl⟩ := inPhase_cases h
  · rw [if_pos rfl, hc]
    have hw := exec_pixelIn_withBook none (f + 1) l w he
    cases ha : (s.withBook none (f + 1) l).inAccept
    · exact (exec_pixelIn_of_wait w ha).symm.trans hw
    · exact hw
  · have hnone : (if r = true then c.inBeat else none) = none := by rcases hc with hc | hc <;> simp [hc]
    rw [hnone]
    rfl

theorem step_loadOnly (h : enginePhase c s = .next t) :
    step (s.withBook q f (.loadOnly c.engineLoad :: l)) = .next (t.withBook none (f + 1) l) := by
  rw [step_withBook_cons, runEdge_loadOnly]
  obtain ⟨hc, he⟩ | ⟨hc, rfl⟩ := enginePhase_cases h
  · exact (if_pos hc).trans (engineLoad_withBook none (f + 1) l he)
  · exact if_neg (ne_true_of_eq_false hc)

end

/-- The machine's run, one step at a time. -/
theorem run_succ_of_next {s t : State} (k : Nat) (h : step s = .next t) :
    Host.Core.run core (k + 1) s = Host.Core.run core k t := by
  have hs : core.step s = .next t := h
  simp only [Host.Core.run, hs]

/-- Settles O8: each phase of the edge, run as an edge of its own from the same state but for the bookkeeping, ends in
the same state but for the bookkeeping. The output beat transfers there too, because the job whose OBUF is valid runs
and no REG transaction touches OBUF while it does. -/
theorem edgeIsItsEventsInOrder : Obligations.EdgeIsItsEventsInOrder := by
  intro s t c hs hrst h
  rw [step_present] at h
  obtain ⟨hr, -⟩ | ⟨-, s1, s2, s3, h1, h2, h3, h4⟩ := runEdge_cases h
  · exact absurd (hrst.symm.trans hr) (by decide)
  have hv : (s.obufValid && c.outReady) = true → s1.obufValid = true := by
    intro hf
    have hob : s.obufValid = true := Bool.and_elim_left hf
    have hkeep := congrArg State.obufValid (regPhase_of_busy h1 (hs.busy_of_obufValid hob))
    exact hkeep.trans hob
  obtain ⟨q, k1⟩ := step_regOnly s.regQ s.freeIx
    [.outOnly (s.obufValid && c.outReady), .inOnly (if inReady c s = true then c.inBeat else none),
      .loadOnly c.engineLoad] h1
  have k2 := step_outOnly q (s.freeIx + 1)
    [.inOnly (if inReady c s = true then c.inBeat else none), .loadOnly c.engineLoad] hv h2
  have k3 := step_inOnly none (s.freeIx + 1 + 1) [.loadOnly c.engineLoad] h3
  have k4 := step_loadOnly none (s.freeIx + 1 + 1 + 1) [] h4
  refine ⟨t.withBook none (s.freeIx + 4) [], ?_, rfl⟩
  exact (run_succ_of_next 3 k1).trans <| (run_succ_of_next 2 k2).trans <| (run_succ_of_next 1 k3).trans <|
    run_succ_of_next 0 k4

theorem regPhase_of_some {c : Cycle} {w : RegBits} (s : State) (h : c.reg = some w) :
    regPhase c s = exec (decode (.reg w)) s := by
  rw [regPhase, h]

theorem inPhase_of_not_ready (c : Cycle) (s : State) : inPhase c false s = .next s := by
  unfold inPhase
  cases c.inBeat <;> rfl

/-- On an idle block it makes no difference whether an edge carries an input beat: none transfers. -/
theorem runEdge_of_idle_without_beat (c : Cycle) {s : State} (hb : s.busy = false) :
    runEdge c s = runEdge { c with inBeat := none } s := by
  rw [runEdge, inReady_of_idle c hb]
  simp only [inPhase_of_not_ready]
  rfl

/-- The edge of the completing output beat: completion follows the REG transaction, and after it neither an input beat
nor a load can happen. -/
theorem runEdge_completes {c : Cycle} {s t : State} (h : runEdge c s = .next t) (hb : s.busy = true)
    (hrst : c.rst = false) (hr : c.outReady = true) (hv : s.obufValid = true)
    (hn : s.outCount.toNat + 1 = s.frameN) : ∃ s1, regPhase c s = .next s1 ∧ t = s1.deliver.complete := by
  obtain ⟨hr', -⟩ | ⟨-, s1, s2, s3, h1, h2, h3, h4⟩ := runEdge_cases h
  · exact absurd (hrst.symm.trans hr') (by decide)
  refine ⟨s1, h1, ?_⟩
  have hjob := regPhase_of_busy h1 hb
  have hs2 : s1.deliver.complete = s2 := by
    have hv1 : s1.obufValid = true := (congrArg State.obufValid hjob).trans hv
    have hn1 : s1.outCount.toNat + 1 = s1.frameN := by rw [hjob]; exact hn
    rw [hv, hr] at h2
    exact Host.Outcome.next.inj ((exec_pixelOut_of_last hv1 hn1).symm.trans h2)
  subst hs2
  have hs3 : s3 = s1.deliver.complete := by
    obtain ⟨w, -, -, he⟩ | ⟨-, he⟩ := inPhase_cases h3
    · exact Host.Outcome.next.inj (he.symm.trans (exec_pixelIn_of_wait w (State.inAccept_of_idle rfl)))
    · exact he
  subst hs3
  obtain ⟨-, he⟩ | ⟨-, he⟩ := enginePhase_cases h4
  · exact Host.Outcome.next.inj (he.symm.trans (engineLoad_of_not_enabled (.inl (State.outOffer_of_idle rfl))))
  · exact he

/-- Settles O9: an idle block accepts no beat; the completing edge ends in the completion of what the REG transaction
left, which has the job's WIDTH and the result read from the running block. -/
theorem sameCycleConsequences : Obligations.SameCycleConsequences := by
  refine ⟨fun s c hb => ?idle, fun s t c hs hrst hr hv hn h => ?completing⟩
  case idle =>
    rw [step_present, step_present]
    exact runEdge_of_idle_without_beat c hb
  case completing =>
    have hb := hs.busy_of_obufValid hv
    rw [step_present] at h
    obtain ⟨s1, h1, rfl⟩ := runEdge_completes h hb hrst hr hv hn
    have hjob := regPhase_of_busy h1 hb
    have hwidth := congrArg State.width hjob
    refine ⟨rfl, rfl, fun _ _ => hwidth, fun d hread => ?_⟩
    rw [regPhase_of_some _ hread, decode_reg_read] at h1
    cases h1
    exact ⟨rfl, hs.status.statusValue_of_busy hb⟩

end Sys2Proof.Machine
end

/-! ### The colour shift, lane by lane (R131, R133) -/

section
namespace Sys2Proof.Machine

/-- The reduction modulo 256 of R131 is the width of the lane. -/
theorem shiftLane_toNat (v : Byte) (k : Nat) : (shiftLane v k).toNat = (v.toNat + k) % 256 := by
  rw [shiftLane, BitVec.toNat_ofNat]
  exact Nat.mod_mod _ 256

section
variable (w : Word)

@[simp] theorem lane_shift_red : lane (shift w) 0 = shiftLane (lane w 0) kR := lane_pix_red ..

@[simp] theorem lane_shift_green : lane (shift w) 1 = shiftLane (lane w 1) kG := lane_pix_green ..

@[simp] theorem lane_shift_blue : lane (shift w) 2 = shiftLane (lane w 2) kB := lane_pix_blue ..

@[simp] theorem lane_shift_alpha : lane (shift w) 3 = lane w 3 := lane_pix_alpha ..

end

/-- Settles O34: each colour lane of the shift is `shiftLane` of that lane by its constant, and alpha is copied. -/
theorem shiftAddsModulo256 : Obligations.ShiftAddsModulo256 := by
  intro w
  refine ⟨?red, ?green, ?blue, lane_shift_alpha w⟩
  case red => rw [lane_shift_red, shiftLane_toNat, kR]
  case green => rw [lane_shift_green, shiftLane_toNat, kG]
  case blue => rw [lane_shift_blue, shiftLane_toNat, kB]

/-- Settles O35: each lane of the shift is a function of the same lane of the word alone. -/
theorem shiftLanesAreIndependent : Obligations.ShiftLanesAreIndependent := by
  intro v w c hc h
  obtain rfl | rfl | rfl | rfl : c = 0 ∨ c = 1 ∨ c = 2 ∨ c = 3 := by omega
  · rw [lane_shift_red, lane_shift_red, h]
  · rw [lane_shift_green, lane_shift_green, h]
  · rw [lane_shift_blue, lane_shift_blue, h]
  · rw [lane_shift_alpha, lane_shift_alpha, h]

end Sys2Proof.Machine
end

/-! ### The interior and the blur of its pixels (R151–R158) -/

section
namespace Sys2Proof.Machine

/-- R151 with the margin by its value. -/
theorem interior_eq_true_iff (W H y x : Nat) :
    interior W H y x = true ↔ (3 ≤ y ∧ y + 3 < H) ∧ (3 ≤ x ∧ x + 3 < W) := by
  simp only [interior, Bool.and_eq_true, decide_eq_true_eq, and_assoc]
  exact Iff.rfl

/-- Settles O37: the margin moves from the right of `<` over the integers to the left over the naturals. -/
theorem interiorIsDocumentCondition : Obligations.InteriorIsDocumentCondition := by
  intro W H y x
  rw [interior_eq_true_iff]
  omega

/-- A pixel with a row above it and a column to its left has the window of the rows `y`, `y + 1`, `y + 2` and the
columns `x`, `x + 1`, `x + 2` (R153). -/
theorem windowIndices_succ (W y x : Nat) :
    windowIndices W ((y + 1) * W + (x + 1)) =
      [0, 1, 2].flatMap fun i => [0, 1, 2].map fun j => (y + i) * W + (x + j) := by
  have index (i j : Nat) : (y + 1) * W + (x + 1) + i * W + j - (W + 1) = (y + i) * W + (x + j) := by
    rw [Nat.add_mul, Nat.add_mul]
    omega
  simp only [windowIndices, index]

/-- A sum of weighted samples is at most 255 times the sum of the weights. -/
theorem weightedSum_le (wts : List Nat) (vs : List Byte) : weightedSum wts vs ≤ 255 * wts.sum := by
  induction wts generalizing vs with
  | nil => exact Nat.zero_le _
  | cons wt wts ih =>
    cases vs with
    | nil => exact Nat.zero_le _
    | cons v vs =>
      have hv : wt * v.toNat ≤ wt * 255 := Nat.mul_le_mul_left wt (Nat.le_of_lt_succ v.isLt)
      have hvs := ih vs
      rw [weightedSum, List.sum_cons]
      omega

/-- R152: the sum of nine samples with the weights written out. -/
theorem weightedSum_weights (a b c d e f g h i : Byte) :
    weightedSum weights [a, b, c, d, e, f, g, h, i] =
      1 * a.toNat + 2 * b.toNat + 1 * c.toNat + 2 * d.toNat + 4 * e.toNat + 2 * f.toNat
        + 1 * g.toNat + 2 * h.toNat + 1 * i.toNat := by
  simp only [weights, weightedSum]
  omega

/-- R156: the sum never exceeds 4080. -/
theorem weightedSum_weights_le (vs : List Byte) : weightedSum weights vs ≤ 4080 := weightedSum_le weights vs

/-- R157: a sixteenth that fits in a byte is the floor division. -/
theorem normalise_toNat {sum : Nat} (h : sum ≤ 4080) : (normalise sum).toNat = sum / 16 := by
  rw [normalise, BitVec.toNat_ofNat, Nat.shiftRight_eq_div_pow, normShift]
  omega

/-- R157, R158: the blur is the floor of a sixteenth of the weighted sum, with nothing lost in narrowing. -/
theorem blurSamples_toNat (vs : List Byte) : (blurSamples vs).toNat = weightedSum weights vs / 16 :=
  normalise_toNat (weightedSum_weights_le vs)

theorem lane_blurWord_colour (ws : List Word) (inp : Word) {c : Nat} (hc : c < 3) :
    lane (blurWord ws inp) c = blurLane ws c := by
  obtain rfl | rfl | rfl : c = 0 ∨ c = 1 ∨ c = 2 := by omega
  · exact lane_pix_red ..
  · exact lane_pix_green ..
  · exact lane_pix_blue ..

@[simp] theorem lane_blurWord_alpha (ws : List Word) (inp : Word) : lane (blurWord ws inp) 3 = lane inp 3 :=
  lane_pix_alpha ..

/-- R190 at an interior pixel, by its row and column. -/
theorem refOut_of_interior {W H y x : Nat} (I : Nat → Word) (h : interior W H y x = true) :
    refOut W H I (y * W + x) =
      blurWord ((windowIndices W (y * W + x)).map fun q => shift (I q)) (I (y * W + x)) := by
  obtain ⟨-, -, hx⟩ := (interior_eq_true_iff W H y x).mp h
  have hxW : x < W := by omega
  have hdiv : (y * W + x) / W = y := Nat.div_eq_of_lt_le (by omega) (by rw [Nat.succ_mul]; omega)
  have hmod : (y * W + x) % W = x := by rw [Nat.mul_add_mod', Nat.mod_eq_of_lt hxW]
  rw [refOut, hdiv, hmod, if_pos h]

/-- Settles O38: an interior output is the blur of its window, whose nine indices are the neighbours' own in row-major
order; the blur of each colour lane is a sixteenth of the weighted sum, and alpha is copied. -/
theorem interiorOutputIsWeightedMean : Obligations.InteriorOutputIsWeightedMean := by
  intro W H y x I h
  rw [refOut_of_interior I h]
  refine ⟨fun c hc S hS => ?colour, lane_blurWord_alpha ..⟩
  case colour =>
    obtain ⟨⟨hy, -⟩, hx, -⟩ := (interior_eq_true_iff W H y x).mp h
    obtain ⟨y, rfl⟩ := Nat.exists_eq_add_of_le' (show 1 ≤ y by omega)
    obtain ⟨x, rfl⟩ := Nat.exists_eq_add_of_le' (show 1 ≤ x by omega)
    rw [lane_blurWord_colour _ _ hc, blurLane, blurSamples_toNat, windowIndices_succ]
    simp only [hS]
    exact congrArg (· / 16) (weightedSum_weights ..)

end Sys2Proof.Machine
end

/-! ### The pixel streams: an input beat (R183, R184) -/

section
namespace Sys2Proof.Machine

/-- R182 as a proposition. -/
theorem State.inAccept_iff (s : State) :
    s.inAccept = true ↔
      s.busy = true ∧ s.inCount.toNat < s.frameN ∧ s.inCount.toNat < s.outCount.toNat + s.look := by
  rw [State.inAccept, Bool.and_eq_true, Bool.and_eq_true, decide_eq_true_eq, decide_eq_true_eq, and_assoc]

/-- No beat is accepted once the job has all its inputs (R182). -/
theorem State.inAccept_of_all_inputs {s : State} (h : s.frameN ≤ s.inCount.toNat) : s.inAccept = false := by
  refine eq_false_of_ne_true fun ha => ?_
  obtain ⟨-, hlt, -⟩ := s.inAccept_iff.mp ha
  omega

/-- A job that has just been accepted has room for its first input (R106, R182). -/
theorem State.inAccept_of_accepted {s : State} (hc : startCheck s.params s.width s.height s.length = 0) :
    s.clearForStart.acceptJob.inAccept = true := by
  obtain ⟨hw, hh, -, -⟩ := (startCheck_eq_zero_iff ..).mp hc
  have hN : 0 < s.clearForStart.acceptJob.frameN := Nat.mul_pos hw hh
  have hlook : 0 < s.clearForStart.acceptJob.look := by
    change 0 < s.width.toNat + 2 + s.params.slack
    omega
  exact (State.inAccept_iff _).mpr ⟨rfl, hN, Nat.lt_add_left _ hlook⟩

section
variable (s : State) (w sh : Word)

/-- The recorded pixel is the one at IN_COUNT (R183). -/
theorem State.read_recordInput_inPix_self : Memory.read (s.recordInput w sh).inPix s.inCount.toNat = some w :=
  Memory.read_write_self ..

theorem State.read_recordInput_hist_self : Memory.read (s.recordInput w sh).hist s.inCount.toNat = some sh :=
  Memory.read_write_self ..

theorem State.read_recordInput_inPix_of_ne {q : Nat} (h : q ≠ s.inCount.toNat) :
    Memory.read (s.recordInput w sh).inPix q = Memory.read s.inPix q := Memory.read_write_of_ne _ _ h

theorem State.read_recordInput_hist_of_ne {q : Nat} (h : q ≠ s.inCount.toNat) :
    Memory.read (s.recordInput w sh).hist q = Memory.read s.hist q := Memory.read_write_of_ne _ _ h

end

/-- R193: both kinds of output pixel carry the alpha of their input. -/
@[simp] theorem lane_refOut_alpha (W H : Nat) (I : Nat → Word) (p : Nat) :
    lane (refOut W H I p) 3 = lane (I p) 3 := by
  unfold refOut
  split
  · exact lane_blurWord_alpha ..
  · exact lane_shift_alpha ..

/-- Settles O28: an accepted beat is `recordInput` of the word and its shift, which writes both maps at
IN_COUNT alone. -/
theorem pixelInRecordsShiftedPixel : Obligations.PixelInRecordsShiftedPixel := by
  refine ⟨fun w s ha => ?accepted, fun w s => exec_pixelIn_of_wait w, fun s ha h0 => ?vector,
    fun w W H p I hI => ?alpha⟩
  case accepted =>
    exact ⟨_, exec_pixelIn_of_accept w ha, rfl, s.read_recordInput_inPix_self .., s.read_recordInput_hist_self ..,
      fun q hq => ⟨s.read_recordInput_inPix_of_ne _ _ hq, s.read_recordInput_hist_of_ne _ _ hq⟩⟩
  case vector =>
    have hshift : shift 0x7F05C80A = 0x7F9BFA6E := by decide
    have hrec := s.read_recordInput_hist_self 0x7F05C80A (shift 0x7F05C80A)
    rw [h0, hshift] at hrec
    exact ⟨_, exec_pixelIn_of_accept _ ha, hshift ▸ hrec, by rw [State.recordInput_inCount, h0]; rfl⟩
  case alpha => rw [lane_refOut_alpha, hI]

/-- Settles O29: `InAccept` is false on an idle block and after the last input, and true right after an accepted START,
whose IN_COUNT is 0. -/
theorem beatNotAcceptedStaysWithHost : Obligations.BeatNotAcceptedStaysWithHost := by
  refine ⟨fun w s h => exec_pixelIn_of_wait w ?waits, fun w d s t hb hc h => ?firstPixel⟩
  case waits => exact h.elim State.inAccept_of_idle State.inAccept_of_all_inputs
  case firstPixel =>
    cases (exec_start_of_accepted d hb hc).symm.trans h
    have ha := State.inAccept_of_accepted (s := s.writeIe d) hc
    exact ⟨_, exec_pixelIn_of_accept w ha, State.read_recordInput_inPix_self .., rfl⟩

end Sys2Proof.Machine
end

/-! ### The reference frame and its bytes (R51, R53, R190, R191) -/

section
namespace Sys2Proof.Machine

/-- The window of an interior pixel, index by index (R153). -/
theorem mem_windowIndices_succ {W y x q : Nat} :
    q ∈ windowIndices W ((y + 1) * W + (x + 1)) ↔ ∃ i < 3, ∃ j < 3, q = (y + i) * W + (x + j) := by
  rw [windowIndices_succ]
  change q ∈ (List.range 3).flatMap (fun i => (List.range 3).map fun j => (y + i) * W + (x + j)) ↔ _
  simp only [List.mem_flatMap, List.mem_map, List.mem_range, eq_comm (a := q)]

/-- R154: the window of an interior pixel lies inside the frame. -/
theorem windowIndices_lt_frame {W H y x q : Nat} (h : interior W H y x = true)
    (hq : q ∈ windowIndices W (y * W + x)) : q < W * H := by
  obtain ⟨⟨hy, hyH⟩, hx, hxW⟩ := (interior_eq_true_iff W H y x).mp h
  obtain ⟨y, rfl⟩ := Nat.exists_eq_add_of_le' (show 1 ≤ y by omega)
  obtain ⟨x, rfl⟩ := Nat.exists_eq_add_of_le' (show 1 ≤ x by omega)
  obtain ⟨i, hi, j, hj, rfl⟩ := mem_windowIndices_succ.mp hq
  calc (y + i) * W + (x + j) < (y + i) * W + W := by omega
    _ = (y + i + 1) * W := (Nat.succ_mul ..).symm
    _ ≤ H * W := Nat.mul_le_mul_right W (by omega)
    _ = W * H := Nat.mul_comm ..

/-- An output pixel depends on the input words of its frame alone. -/
theorem refOut_congr {W H p : Nat} {I J : Nat → Word} (hIJ : ∀ q < W * H, I q = J q) (hp : p < W * H) :
    refOut W H I p = refOut W H J p := by
  unfold refOut
  split
  next h =>
    have hwindow : ∀ q ∈ windowIndices W p, I q = J q := fun q hq =>
      hIJ q (windowIndices_lt_frame h (by rwa [Nat.div_add_mod']))
    rw [hIJ p hp, List.map_congr_left fun q hq => congrArg shift (hwindow q hq)]
  next => rw [hIJ p hp]

theorem refFrame_congr {W H : Nat} {I J : Nat → Word} (hIJ : ∀ q < W * H, I q = J q) :
    refFrame W H I = refFrame W H J :=
  List.map_congr_left fun _ hp => refOut_congr hIJ (List.mem_range.mp hp)

theorem refFrame_length (W H : Nat) (I : Nat → Word) : (refFrame W H I).length = W * H := by
  rw [refFrame, List.length_map, List.length_range]

/-- A pixel is four bytes (R51). -/
theorem frameBytes_length (ws : List Word) : (frameBytes ws).length = 4 * ws.length := by
  induction ws with
  | nil => rfl
  | cons w ws ih =>
    rw [frameBytes, List.flatMap_cons, List.length_append, ← frameBytes, ih, wordBytes_eq, List.length_cons]
    exact Nat.add_comm ..

/-- The pixel words of the bytes of a list of words are the words again (R51, R53). -/
theorem bufferWord_frameBytes (ws : List Word) (p : Nat) : bufferWord (frameBytes ws) p = ws.getD p 0 := by
  induction ws generalizing p with
  | nil => exact (by decide : pix 0 0 0 0 = 0)
  | cons w ws ih =>
    cases p with
    | zero => exact pix_lanes w
    | succ p => exact ih p

/-- `apply` of the bytes of a frame that the block accepts (R191). -/
theorem apply_frameBytes {maxWidth W H : Nat} (I : Nat → Word) (hW : 1 ≤ W) (hH : 1 ≤ H) (hmax : W ≤ maxWidth) :
    apply maxWidth W H (frameBytes ((List.range (W * H)).map I)) = .ok (W, H, frameBytes (refFrame W H I)) := by
  have hlen : (frameBytes ((List.range (W * H)).map I)).length = channels * W * H := by
    rw [frameBytes_length, List.length_map, List.length_range, channels_eq, Nat.mul_assoc]
  have hbuf : refFrame W H (bufferWord (frameBytes ((List.range (W * H)).map I))) = refFrame W H I :=
    refFrame_congr fun q hq => by simp [bufferWord_frameBytes, hq]
  rw [apply, if_neg (by omega), if_neg (by omega), hbuf]

end Sys2Proof.Machine
end

/-! ### The completing edge of a job (R103, R110, R191, R219) -/

section
namespace Sys2Proof.Machine

section
variable {c : Cycle} {s t : State}

/-- R112: a write to a running block changes the interrupt enables at most, because there is no result to clear. -/
theorem exec_decodeWrite_of_running (a : RegAddr) (d : Word) (hs : StatusLegal s) (hb : s.busy = true) :
    ∃ t, exec (decodeWrite a d) s = .next t ∧ t = { s with doneIe := t.doneIe, errIe := t.errIe } := by
  obtain ⟨hd, he, hc⟩ := hs.clear_of_busy hb
  unfold decodeWrite
  split
  · split
    · exact ⟨_, exec_start_of_busy d hb, rfl⟩
    · exact ⟨_, exec_wrCtrl d s, rfl⟩
  · exact ⟨s, congrArg _ (State.clearStatus_of_clear d hd he hc), rfl⟩
  · exact ⟨s, exec_wrWidth_of_busy d hb, rfl⟩
  · exact ⟨s, exec_wrHeight_of_busy d hb, rfl⟩
  · exact ⟨s, exec_wrLength_of_busy d hb, rfl⟩
  all_goals exact ⟨s, rfl, rfl⟩

/-- R112: no REG transaction touches a running job or its status. -/
theorem exec_reg_of_running (w : RegBits) (hs : StatusLegal s) (hb : s.busy = true) :
    ∃ t, exec (decode (.reg w)) s = .next t ∧
      t = { s with doneIe := t.doneIe, errIe := t.errIe, regQ := t.regQ } := by
  rw [← regWord_fields w]
  cases regWe w with
  | false =>
    obtain ⟨q, hq⟩ := exec_decodeRead (regAddr w) s
    exact ⟨_, by rw [decode_reg_read, hq], rfl⟩
  | true =>
    obtain ⟨t, ht, hf⟩ := exec_decodeWrite_of_running (regAddr w) (regData w) hs hb
    exact ⟨t, by rw [decode_reg_write, ht], by rw [hf]⟩

theorem regPhase_of_running (h : regPhase c s = .next t) (hs : StatusLegal s) (hb : s.busy = true) :
    t = { s with doneIe := t.doneIe, errIe := t.errIe, regQ := t.regQ } := by
  cases hc : c.reg with
  | none =>
    rw [regPhase, hc] at h
    cases h
    rfl
  | some w =>
    obtain ⟨u, hu, hf⟩ := exec_reg_of_running w hs hb
    cases hu.symm.trans ((regPhase_of_some s hc).symm.trans h)
    exact hf

/-- DONE is set by an output beat that is the last of its job (R110). -/
theorem outPhase_done_cases {f : Bool} (h : outPhase f s = .next t) :
    (f = true ∧ s.obufValid = true ∧ s.outCount.toNat + 1 = s.frameN ∧ t = s.deliver.complete) ∨
    t.done = s.done := by
  obtain ⟨hf, he⟩ | ⟨-, rfl⟩ := outPhase_cases h
  · obtain ⟨hv, hn, hx⟩ | ⟨-, -, hx⟩ | ⟨-, hx⟩ := execPixelOut_cases s
    · exact .inl ⟨hf, hv, hn, (Host.Outcome.next.inj (hx.symm.trans he)).symm⟩
    · cases hx.symm.trans he; exact .inr rfl
    · cases hx.symm.trans he; exact .inr rfl
  · exact .inr rfl

theorem inPhase_done {r : Bool} (h : inPhase c r s = .next t) : t.done = s.done := by
  obtain ⟨w, -, -, he⟩ | ⟨-, rfl⟩ := inPhase_cases h
  · obtain ⟨-, hx⟩ | ⟨-, hx⟩ := execPixelIn_cases w s
    · cases hx.symm.trans he; rfl
    · cases hx.symm.trans he; rfl
  · rfl

theorem enginePhase_done (h : enginePhase c s = .next t) : t.done = s.done := by
  obtain ⟨-, he⟩ | ⟨-, rfl⟩ := enginePhase_cases h
  · obtain ⟨-, -, w, -, rfl⟩ | ⟨-, rfl⟩ := engineLoad_cases he <;> rfl
  · rfl

theorem rstEdge_done (c : Cycle) (s : State) : (rstEdge c s).done = false := by
  unfold rstEdge
  split
  · rfl
  · split <;> rfl

/-- R103: an edge at which a running job comes to DONE is the edge of its last output beat. -/
theorem runEdge_sets_done (h : runEdge c s = .next t) (hs : StatusLegal s) (hb : s.busy = true) (hd : t.done = true) :
    c.rst = false ∧ c.outReady = true ∧ s.obufValid = true ∧ s.outCount.toNat + 1 = s.frameN := by
  obtain ⟨-, rfl⟩ | ⟨hrst, s1, s2, s3, h1, h2, h3, h4⟩ := runEdge_cases h
  · exact absurd ((rstEdge_done c s).symm.trans hd) Bool.false_ne_true
  have hjob := regPhase_of_running h1 hs hb
  have hd2 : s2.done = true := by rw [← inPhase_done h3, ← enginePhase_done h4, hd]
  obtain ⟨hf, -, hn, -⟩ | hkeep := outPhase_done_cases h2
  · obtain ⟨hv, hr⟩ := Bool.and_eq_true_iff.mp hf
    rw [hjob] at hn
    exact ⟨hrst, hr, hv, hn⟩
  · have hd1 : s1.done = s.done := by rw [hjob]
    obtain ⟨hdone, -, -⟩ := hs.clear_of_busy hb
    rw [hkeep, hd1, hdone] at hd2
    exact absurd hd2 Bool.false_ne_true

end

section
variable {s : State}

/-- OUT_COUNT of a running job does not wrap, since LENGTH holds 4 * N in 32 bits. -/
theorem JobLegal.outCount_succ (h : JobLegal s) : (s.outCount + 1).toNat = s.outCount.toNat + 1 := by
  have hlen := h.lengthEq
  have hlt := h.outLt
  have hL := s.length.isLt
  rw [Nat.mul_assoc, ← State.frameN] at hlen
  rw [BitVec.toNat_add]
  exact Nat.mod_eq_of_lt (show s.outCount.toNat + 1 < 2 ^ 32 by omega)

/-- The beat that a delivery adds is the newest of the job (R188). -/
theorem State.delivered_deliver (h : (s.outCount + 1).toNat = s.outCount.toNat + 1) :
    s.deliver.delivered = s.delivered ++ [s.obufWord] := by
  rw [State.delivered, State.deliver_outCount, State.deliver_taken, h, List.take_succ_cons, List.reverse_cons]
  rfl

/-- R109: a delivery continues the reference output. -/
theorem JobLegal.delivered_deliver (h : JobLegal s) (hv : s.obufValid = true) :
    s.deliver.delivered = (List.range (s.outCount.toNat + 1)).map (refOut s.width.toNat s.height.toNat s.input) := by
  obtain ⟨-, hword⟩ := h.obuf hv
  rw [State.delivered_deliver h.outCount_succ, h.delivered, hword, List.range_succ, List.map_append]
  rfl

/-- R191: with the last beat the host has taken the whole reference frame. -/
theorem JobLegal.delivered_deliver_last (h : JobLegal s) (hv : s.obufValid = true)
    (hn : s.outCount.toNat + 1 = s.frameN) :
    s.deliver.delivered = refFrame s.width.toNat s.height.toNat s.input := by
  rw [h.delivered_deliver hv, hn]
  rfl

end

/-- The start of an edge leaves STATUS alone. -/
theorem StatusLegal.beginEdge {s : State} (h : StatusLegal s) : StatusLegal s.beginEdge :=
  ⟨h.notBusyDone, h.notBusyErr, h.notDoneErr, h.errcodeIff, h.errcodeLe⟩

/-- R219: what the host driver reports after a completed job. -/
theorem driverResult_of_done {s : State} (he : s.err = false) (hd : s.done = true) :
    driverResult s = some (.ok (s.width.toNat, s.height.toNat, frameBytes s.delivered)) := by
  rw [driverResult, if_neg (ne_true_of_eq_false he), if_pos hd]

/-- Settles O53: DONE comes with the job's last output beat, before which the REG transaction leaves the job as it is;
so the host has taken the reference frame, which is `apply` of a frame that passed the START check. -/
theorem completedJobComputesApply : Obligations.CompletedJobComputesApply := by
  intro s t hs hb h hd
  have hjob := hs.job hb
  obtain ⟨hrst, hr, hv, hn⟩ := runEdge_sets_done h hs.status.beginEdge hb hd
  obtain ⟨s1, h1, rfl⟩ := runEdge_completes h hb hrst hr hv hn
  obtain ⟨-, herr, -⟩ := hs.status.clear_of_busy hb
  rw [regPhase_of_running h1 hs.status.beginEdge hb]
  have hdelivered := hjob.delivered_deliver_last hv hn
  refine ⟨rfl, rfl, ?length, hdelivered, ?apply, driverResult_of_done herr rfl⟩
  case length => exact (congrArg List.length hdelivered).trans (refFrame_length ..)
  case apply =>
    refine (apply_frameBytes s.input hjob.widthPos hjob.heightPos hjob.widthMax).trans ?_
    rw [← hdelivered]
    rfl

end Sys2Proof.Machine
end

/-! ### A START with a refused frame (R213, R214) -/

section
namespace Sys2Proof.Machine

/-- Settles O25: each cause by the condition of its code, none of which is 0, so the START is a refused one; in the
example LENGTH = 0 is the mismatch that outranks the width limit. -/
theorem startRecordsRefusedFrame : Obligations.StartRecordsRefusedFrame := by
  refine ⟨?refused, ?mismatchOutranksLimit⟩
  case refused =>
    intro d s hb code h
    have hc : startCheck s.params s.width s.height s.length = code ∧ code ≠ 0 := by
      obtain ⟨rfl, hzero⟩ | ⟨rfl, -, hlength⟩ | ⟨rfl, hpos, hlength, hmax⟩ := h
      · exact ⟨(startCheck_eq_one_iff ..).mpr (or_assoc.mp (.inl hzero)), by decide⟩
      · exact ⟨(startCheck_eq_one_iff ..).mpr (.inr (.inr hlength)), by decide⟩
      · exact ⟨(startCheck_eq_two_iff ..).mpr ⟨by omega, by omega, hlength, hmax⟩, by decide⟩
    obtain ⟨rfl, hne⟩ := hc
    exact exec_start_of_refused d hb hne
  case mismatchOutranksLimit =>
    intro d s hb hw hh hl
    obtain ⟨t, ht, hcode⟩ := exec_start_errcode d hb
    have hmismatch : s.length.toNat ≠ 4 * s.width.toNat * s.height.toNat := by
      simp [hl, hh, hw]
    exact ⟨t, ht, hcode.trans ((startCheck_eq_one_iff ..).mpr (.inr (.inr hmismatch)))⟩

end Sys2Proof.Machine
end

/-! ### An edge with `rst` = 1 (R240) -/

section
namespace Sys2Proof.Machine

/-- R116, R240: under `rst` an edge is the reset of the block; its transactions move nothing but the driven result. -/
theorem rstEdge_eq_resetBlock (c : Cycle) (s : State) : ∃ q, rstEdge c s = { s.resetBlock with regQ := q } := by
  unfold rstEdge
  split
  next => exact ⟨s.regQ, rfl⟩
  next w _ =>
    cases regWe w
    case false => exact ⟨some (Config.freeReadData s.freeIx), rfl⟩
    case true => exact ⟨s.regQ, rfl⟩

/-- Under `rst` the edge never stops, whatever the state and whatever else it carries. -/
theorem runEdge_of_rst {c : Cycle} (s : State) (h : c.rst = true) : runEdge c s = .next (rstEdge c s) := if_pos h

/-- Settles O10: the edge ends in the reset block, which holds every reset value; an idle block is not ready for input,
and with DONE and ERR clear there is no interrupt. -/
theorem resetEdgeResetsEveryField : Obligations.ResetEdgeResetsEveryField := by
  intro s c hrst
  obtain ⟨q, hq⟩ := rstEdge_eq_resetBlock c { s with regQ := none, freeIx := s.freeIx + 1 }
  have hstep : step (s.present c) = .next { s.resetBlock with regQ := q, freeIx := s.freeIx + 1 } := by
    rw [step_present, runEdge_of_rst _ hrst, hq]
    rfl
  exact ⟨_, hstep, rfl, rfl, rfl, rfl, rfl, rfl, rfl, rfl, rfl, rfl, rfl, fun _ => rfl, rfl, fun c' => inReady_of_idle c' rfl,
    irq_eq_false_of_done_err rfl rfl⟩

end Sys2Proof.Machine
end

/-! ### The encoder and the decoder undo each other (R71, R75) -/

section
namespace Sys2Proof

theorem RegAddr.eq_of_toNat_eq {a : RegAddr} {n : Nat} (h : a.toNat = n) : a = BitVec.ofNat 6 n := by
  rw [← h, BitVec.ofNat_toNat, BitVec.setWidth_eq]

theorem encode_decodeRead (a : RegAddr) : encode (decodeRead a) = .reg (regWord false a 0) := by
  unfold decodeRead
  split
  case h_10 => rfl
  all_goals
    rename_i h
    rw [RegAddr.eq_of_toNat_eq h]
    rfl

theorem encode_decodeWrite (a : RegAddr) (d : Word) : encode (decodeWrite a d) = .reg (regWord true a d) := by
  unfold decodeWrite
  split
  case h_1 h =>
    rw [RegAddr.eq_of_toNat_eq h]
    split <;> rfl
  case h_6 | h_7 | h_8 | h_9 | h_10 => rfl
  all_goals
    rename_i h
    rw [RegAddr.eq_of_toNat_eq h]
    rfl

theorem decodeRead_wellFormed (a : RegAddr) : (decodeRead a).wellFormed = true := by
  unfold decodeRead
  split
  case h_10 =>
    simp only [imp_false] at *
    exact decide_eq_true (by omega)
  all_goals rfl

theorem decodeWrite_wellFormed (a : RegAddr) (d : Word) : (decodeWrite a d).wellFormed = true := by
  unfold decodeWrite
  split
  case h_1 =>
    split
    next h => exact h
    next h => simpa [Instr.wellFormed] using h
  case h_6 | h_7 | h_8 | h_9 => exact decide_eq_true (by omega)
  case h_10 =>
    simp only [imp_false] at *
    exact decide_eq_true (by omega)
  all_goals rfl

/-- Settles O4: each instruction's word decodes by the row of the map that its operand ranges select. -/
theorem decodeInvertsEncode : Obligations.DecodeInvertsEncode := by
  intro i h
  cases i with
  | rdRsvd a => exact (decode_reg_read a 0).trans (decodeRead_of_reserved (of_decide_eq_true h))
  | wrCtrl d => exact (decode_reg_write 0 d).trans (decodeWrite_ctrl_of_bit_clear (by simpa [Instr.wellFormed] using h))
  | start d => exact (decode_reg_write 0 d).trans (decodeWrite_ctrl_of_bit_set h)
  | wrStatus d => exact decode_reg_write 1 d
  | wrWidth d => exact decode_reg_write 2 d
  | wrHeight d => exact decode_reg_write 3 d
  | wrLength d => exact decode_reg_write 4 d
  | wrRo a d =>
    obtain ⟨h5, h8⟩ : 5 ≤ a.toNat ∧ a.toNat ≤ 8 := of_decide_eq_true h
    exact (decode_reg_write a d).trans (decodeWrite_of_readOnly d h5 h8)
  | wrRsvd a d => exact (decode_reg_write a d).trans (decodeWrite_of_reserved d (of_decide_eq_true h))
  | pixelIn w => rfl
  | pixelOut => rfl
  | _ => exact decode_reg_read _ 0

/-- Settles O5: a word is its three fields, and each column of the map is encoded back to the fields it read. -/
theorem encodeInvertsDecode : Obligations.EncodeInvertsDecode := by
  refine ⟨fun w hw => ?write, fun w hr => ?read, fun _ => rfl⟩
  case write =>
    rw [← regWord_fields w, hw, decode_reg_write, encode_decodeWrite]
  case read =>
    conv_lhs => rw [← regWord_fields w, hr, decode_reg_read, encode_decodeRead]

/-- Settles O6: a REG word by its column of the map; the stream beats have no range to keep. -/
theorem decodeGivesWellFormed : Obligations.DecodeGivesWellFormed := by
  intro t
  cases t with
  | reg w =>
    rw [← regWord_fields w]
    cases regWe w with
    | false => rw [decode_reg_read]; exact decodeRead_wellFormed _
    | true => rw [decode_reg_write]; exact decodeWrite_wellFormed _ _
  | pin w => rfl
  | pout w => rfl

/-- Settles O1: each of the spec's words, evaluated. -/
theorem specWordsDecode : Obligations.SpecWordsDecode := by
  unfold Obligations.SpecWordsDecode
  decide

end Sys2Proof
end

/-! ### SHIFT is a bijection (R134) -/

section
namespace Sys2Proof.Machine

/-- Each lane's shift is undone by the rest of the way to 256 (R134). -/
theorem shiftLane_shiftLane_sub (v : Byte) {k : Nat} (hk : k ≤ 256) : shiftLane (shiftLane v k) (256 - k) = v := by
  apply BitVec.eq_of_toNat_eq
  have hv := v.isLt
  rw [shiftLane_toNat, shiftLane_toNat]
  omega

theorem shiftLane_sub_shiftLane (v : Byte) {k : Nat} (hk : k ≤ 256) : shiftLane (shiftLane v (256 - k)) k = v := by
  have h := shiftLane_shiftLane_sub v (Nat.sub_le 256 k)
  rwa [Nat.sub_sub_self hk] at h

/-- A lane wraps exactly from the threshold 256 − K (R134). -/
theorem shiftLane_toNat_eq_ite (v : Byte) {k : Nat} (hk : k ≤ 256) :
    (shiftLane v k).toNat = if v.toNat < 256 - k then v.toNat + k else v.toNat - (256 - k) := by
  have hv := v.isLt
  rw [shiftLane_toNat]
  split <;> omega

/-- The word that SHIFT sends to `w`. -/
def unshift (w : Word) : Word :=
  pix (shiftLane (lane w 0) (256 - kR)) (shiftLane (lane w 1) (256 - kG)) (shiftLane (lane w 2) (256 - kB)) (lane w 3)

theorem shift_unshift (w : Word) : shift (unshift w) = w := by
  rw [shift, unshift, lane_pix_red, lane_pix_green, lane_pix_blue, lane_pix_alpha,
    shiftLane_sub_shiftLane _ (by decide), shiftLane_sub_shiftLane _ (by decide), shiftLane_sub_shiftLane _ (by decide),
    pix_lanes]

theorem unshift_shift (w : Word) : unshift (shift w) = w := by
  rw [unshift, lane_shift_red, lane_shift_green, lane_shift_blue, lane_shift_alpha,
    shiftLane_shiftLane_sub _ (by decide), shiftLane_shiftLane_sub _ (by decide), shiftLane_shiftLane_sub _ (by decide),
    pix_lanes]

/-- Settles O36: the thresholds are 256 − K, and `unshift` undoes SHIFT on either side. -/
theorem shiftIsBijective : Obligations.ShiftIsBijective :=
  ⟨fun v => shiftLane_toNat_eq_ite v (by decide), fun v => shiftLane_toNat_eq_ite v (by decide),
    fun v => shiftLane_toNat_eq_ite v (by decide), fun v _ => shiftLane_shiftLane_sub v,
    Function.LeftInverse.injective unshift_shift, fun w => ⟨unshift w, shift_unshift w⟩, 0, by decide⟩

end Sys2Proof.Machine
end

/-! ### The window and the laws of BLUR (R154, R156, R158, R161, R162) -/

section
namespace Sys2Proof.Machine

/-- Settles O39: the index of window row `i` and column `j` is that of the pixel `(y + i − 1, x + j − 1)`. -/
theorem windowStaysInsideFrame : Obligations.WindowStaysInsideFrame := by
  intro W H y x h q hq
  refine ⟨windowIndices_lt_frame h hq, ?_⟩
  obtain ⟨⟨hy, hyH⟩, hx, hxW⟩ := (interior_eq_true_iff W H y x).mp h
  obtain ⟨y, rfl⟩ := Nat.exists_eq_add_of_le' (show 1 ≤ y by omega)
  obtain ⟨x, rfl⟩ := Nat.exists_eq_add_of_le' (show 1 ≤ x by omega)
  obtain ⟨i, hi, j, hj, rfl⟩ := mem_windowIndices_succ.mp hq
  exact ⟨y + i, x + j, rfl, by omega⟩

/-- Settles O40: 4080 is below 2^12. -/
theorem accumulatorNeverOverflows : Obligations.AccumulatorNeverOverflows := by
  intro vs
  have hle := weightedSum_weights_le vs
  refine ⟨hle, fun n hn => Nat.mod_eq_of_lt ?_, blurSamples_toNat vs⟩
  calc weightedSum weights vs < 2 ^ 12 := by omega
    _ ≤ 2 ^ n := Nat.pow_le_pow_right (by decide) hn

/-- A weighted sum is monotone in every sample. -/
theorem weightedSum_mono (wts : List Nat) {vs ws : List Byte}
    (h : List.Forall₂ (fun v w : Byte => v.toNat ≤ w.toNat) vs ws) : weightedSum wts vs ≤ weightedSum wts ws := by
  induction h generalizing wts with
  | nil => exact le_rfl
  | @cons v w _ _ hvw _ ih =>
    cases wts with
    | nil => exact le_rfl
    | cons wt wts => exact Nat.add_le_add (Nat.mul_le_mul_left wt hvw) (ih wts)

/-- A weighted sum lies between the bounds of its samples, each times the sum of the weights. -/
theorem weightedSum_bounds {wts : List Nat} {vs : List Byte} {lo hi : Nat} (hlen : vs.length = wts.length)
    (h : ∀ v ∈ vs, lo ≤ v.toNat ∧ v.toNat ≤ hi) :
    wts.sum * lo ≤ weightedSum wts vs ∧ weightedSum wts vs ≤ wts.sum * hi := by
  induction wts generalizing vs with
  | nil => simp [weightedSum]
  | cons wt wts ih =>
    cases vs with
    | nil => simp at hlen
    | cons v vs =>
      obtain ⟨hlo, hhi⟩ := h v List.mem_cons_self
      obtain ⟨ihlo, ihhi⟩ := ih (Nat.succ.inj hlen) fun u hu => h u (List.mem_cons_of_mem _ hu)
      rw [List.sum_cons, Nat.add_mul, Nat.add_mul]
      exact ⟨Nat.add_le_add (Nat.mul_le_mul_left wt hlo) ihlo, Nat.add_le_add (Nat.mul_le_mul_left wt hhi) ihhi⟩

/-- R162: the blur lies between the bounds of its nine samples, because the weights sum to 16. -/
theorem blurSamples_bounds {vs : List Byte} {lo hi : Nat} (hlen : vs.length = 9)
    (h : ∀ v ∈ vs, lo ≤ v.toNat ∧ v.toNat ≤ hi) : lo ≤ (blurSamples vs).toNat ∧ (blurSamples vs).toNat ≤ hi := by
  have hsum : weights.sum = 16 := by decide
  obtain ⟨hlo, hhi⟩ := weightedSum_bounds (wts := weights) hlen h
  rw [hsum] at hlo hhi
  rw [blurSamples_toNat]
  omega

/-- R162: a uniform window keeps its value. -/
theorem blurSamples_replicate (v : Byte) : blurSamples (List.replicate 9 v) = v := by
  obtain ⟨hlo, hhi⟩ := blurSamples_bounds (vs := List.replicate 9 v) (lo := v.toNat) (hi := v.toNat)
    List.length_replicate fun u hu => by rw [List.eq_of_mem_replicate hu]; exact ⟨le_rfl, le_rfl⟩
  exact BitVec.eq_of_toNat_eq (Nat.le_antisymm hhi hlo)

/-- Settles O41: the bounds, the uniform window, monotonicity, and the two mirrors, which permute equal weights. -/
theorem blurIsMonotoneMean : Obligations.BlurIsMonotoneMean := by
  refine ⟨fun vs lo hi => blurSamples_bounds, blurSamples_replicate, fun vs ws h => ?mono,
    fun a b c d e f g h i => ⟨congrArg normalise ?leftRight, congrArg normalise ?upDown⟩⟩
  case mono =>
    rw [blurSamples_toNat, blurSamples_toNat]
    exact Nat.div_le_div_right (weightedSum_mono weights h)
  case leftRight =>
    rw [weightedSum_weights, weightedSum_weights]
    omega
  case upDown =>
    rw [weightedSum_weights, weightedSum_weights]
    omega

/-- One axis of the interior: index `y` of `m` keeps the margin on both sides (R151). -/
def insideMargins (m y : Nat) : Bool := decide (3 ≤ y ∧ y + 3 < m)

theorem interior_eq_insideMargins (W H y x : Nat) : interior W H y x = (insideMargins H y && insideMargins W x) := by
  rw [Bool.eq_iff_iff, interior_eq_true_iff, Bool.and_eq_true, insideMargins, insideMargins, decide_eq_true_eq,
    decide_eq_true_eq]

/-- Among the first `n` indices those inside the margins run from 3 to `m − 4`. -/
theorem length_filter_insideMargins (m n : Nat) :
    ((List.range n).filter (insideMargins m)).length = min n (m - 3) - 3 := by
  induction n with
  | zero => simp
  | succ n ih =>
    rw [List.range_succ, List.filter_append, List.length_append, ih, List.filter_singleton, insideMargins]
    by_cases h : 3 ≤ n ∧ n + 3 < m
    · rw [decide_eq_true h, cond_true, List.length_singleton]
      omega
    · rw [decide_eq_false h, cond_false, List.length_nil]
      omega

/-- A frame's pixels that pass a test of the row and one of the column are the rows and columns that pass. -/
theorem length_filter_rows_columns (P Q : Nat → Bool) (W H : Nat) :
    ((List.range (W * H)).filter fun p => P (p / W) && Q (p % W)).length =
      ((List.range W).filter Q).length * ((List.range H).filter P).length := by
  induction H with
  | zero => simp
  | succ H ih =>
    have row : ((List.range W).map (W * H + ·)).filter (fun p => P (p / W) && Q (p % W)) =
        ((List.range W).filter fun x => P H && Q x).map (W * H + ·) := by
      rw [List.filter_map]
      congr 1
      refine List.filter_congr fun x hx => ?_
      have hxW : x < W := List.mem_range.mp hx
      have hdiv : (W * H + x) / W = H := by
        rw [Nat.mul_add_div (by omega), Nat.div_eq_of_lt hxW, Nat.add_zero]
      have hmod : (W * H + x) % W = x := by rw [Nat.mul_add_mod, Nat.mod_eq_of_lt hxW]
      rw [Function.comp_apply, hdiv, hmod]
    rw [Nat.mul_succ, List.range_add, List.filter_append, List.length_append, ih, row, List.length_map,
      List.range_succ, List.filter_append, List.length_append, Nat.mul_add, List.filter_singleton]
    cases P H <;> simp

/-- Settles O42: the interior is a test of the row and one of the column, each passed by all but six. -/
theorem interiorPixelCount : Obligations.InteriorPixelCount := by
  intro W H
  simp only [interior_eq_insideMargins]
  rw [length_filter_rows_columns, length_filter_insideMargins, length_filter_insideMargins]
  congr 1 <;> omega

/-- A frame of six or fewer rows or columns has no interior (R163). -/
theorem interior_eq_false_of_small {W H : Nat} (h : W ≤ 6 ∨ H ≤ 6) (y x : Nat) : interior W H y x = false := by
  refine eq_false_of_ne_true fun hi => ?_
  obtain ⟨⟨hy, hyH⟩, hx, hxW⟩ := (interior_eq_true_iff W H y x).mp hi
  omega

/-- R192: a border pixel carries its post-shift word. -/
theorem refOut_of_border {W H p : Nat} (I : Nat → Word) (h : interior W H (p / W) (p % W) = false) :
    refOut W H I p = shift (I p) := if_neg (ne_true_of_eq_false h)

/-- Settles O43: the border by the definition of the output, alpha by either of its cases, and a small frame is all
border. -/
theorem borderAndAlphaArePreserved : Obligations.BorderAndAlphaArePreserved := fun W H I =>
  ⟨fun _ => refOut_of_border I, lane_refOut_alpha W H I,
    fun h _ => refOut_of_border I (interior_eq_false_of_small h _ _)⟩

end Sys2Proof.Machine
end

/-! ### The register window (R55, R58) -/

section
namespace Sys2Proof.Machine

/-- What it is to select a word address: to be its platform address (R58). -/
theorem wordAddrOf_eq_some_iff (p : Config.Params) (addr : Nat) (a : RegAddr) :
    wordAddrOf p addr = some a ↔ addr = platformAddr p a := by
  have ha := a.isLt
  unfold wordAddrOf platformAddr
  split
  next h =>
    rw [Option.some.injEq, ← BitVec.toNat_inj, BitVec.toNat_ofNat]
    omega
  next h =>
    refine iff_of_false nofun ?_
    omega

/-- Settles O59: the two directions of `wordAddrOf_eq_some_iff`. -/
theorem windowSelectsRegisters : Obligations.WindowSelectsRegisters := fun p =>
  ⟨fun a => (wordAddrOf_eq_some_iff p _ a).mpr rfl, fun addr a => (wordAddrOf_eq_some_iff p addr a).mp⟩

end Sys2Proof.Machine
end

/-! ### What a transaction can do (R57, R60, R76, R112) -/

section
namespace Sys2Proof.Machine

/-- Settles O45: each meaning answers by its definition; START, PIXEL_IN and PIXEL_OUT in each of their cases. -/
theorem noTransactionStops : Obligations.NoTransactionStops := by
  intro i s
  cases i with
  | start d => obtain ⟨-, h⟩ | ⟨-, h⟩ := execStart_cases d s <;> exact ⟨_, h⟩
  | pixelIn w => obtain ⟨-, h⟩ | ⟨-, h⟩ := execPixelIn_cases w s <;> exact ⟨_, h⟩
  | pixelOut => obtain ⟨-, -, h⟩ | ⟨-, -, h⟩ | ⟨-, h⟩ := execPixelOut_cases s <;> exact ⟨_, h⟩
  | _ => exact ⟨_, rfl⟩

/-- A read may be repeated: it finds the same value again (R57). -/
theorem exec_decodeRead_repeats (a : RegAddr) (s : State) : ∃ q : Word,
    exec (decodeRead a) s = .next (s.answer q) ∧ exec (decodeRead a) (s.answer q) = .next (s.answer q) := by
  unfold decodeRead
  split <;> exact ⟨_, rfl, rfl⟩

theorem decode_reg_of_read {w : RegBits} (h : regWe w = false) : decode (.reg w) = decodeRead (regAddr w) := by
  rw [← regWord_fields w, h, decode_reg_read, regAddr_regWord]

theorem decode_reg_of_write {w : RegBits} (h : regWe w = true) :
    decode (.reg w) = decodeWrite (regAddr w) (regData w) := by
  rw [← regWord_fields w, h, decode_reg_write, regAddr_regWord, regData_regWord]

/-- Settles O46: a word with WE = 0 is a read, and a read repeats. -/
theorem registerReadsHaveNoSideEffect : Obligations.RegisterReadsHaveNoSideEffect := by
  intro w s hw
  rw [decode_reg_of_read hw]
  exact exec_decodeRead_repeats (regAddr w) s

/-- The ways in which the REG word `w` can change the state `s` (R71, R75). -/
inductive RegEffect (w : RegBits) (s : State) : State → Prop where
  | none : RegEffect w s s
  | answer (q : Word) : RegEffect w s (s.answer q)
  | writeIe (d : Word) : RegEffect w s (s.writeIe d)
  | startJob (d : Word) (hd : decode (.reg w) = .start d) (hb : s.busy = false) : RegEffect w s (s.writeIe d).startJob
  | clearStatus (d : Word) : RegEffect w s (s.clearStatus d)
  | writeWidth (d : Word) (hd : decode (.reg w) = .wrWidth d) : RegEffect w s (s.writeWidth d)
  | writeHeight (d : Word) (hd : decode (.reg w) = .wrHeight d) : RegEffect w s (s.writeHeight d)
  | writeLength (d : Word) (hd : decode (.reg w) = .wrLength d) : RegEffect w s (s.writeLength d)

/-- Every REG word answers a next state, in one of these ways. -/
theorem exec_reg_effect (w : RegBits) (s : State) : ∃ t, exec (decode (.reg w)) s = .next t ∧ RegEffect w s t := by
  cases hwe : regWe w with
  | false =>
    rw [decode_reg_of_read hwe]
    obtain ⟨q, hq⟩ := exec_decodeRead (regAddr w) s
    exact ⟨_, hq, .answer q⟩
  | true =>
    generalize hi : decode (.reg w) = i
    have hw := (decode_reg_of_write hwe).symm.trans hi
    unfold decodeWrite at hw
    split at hw
    case h_1 =>
      split at hw
      · subst hw
        obtain ⟨-, he⟩ | ⟨hb, he⟩ := execStart_cases (regData w) s
        · exact ⟨_, he, .writeIe _⟩
        · exact ⟨_, he, .startJob _ hi hb⟩
      · subst hw; exact ⟨_, rfl, .writeIe _⟩
    case h_2 => subst hw; exact ⟨_, rfl, .clearStatus _⟩
    case h_3 => subst hw; exact ⟨_, rfl, .writeWidth _ hi⟩
    case h_4 => subst hw; exact ⟨_, rfl, .writeHeight _ hi⟩
    case h_5 => subst hw; exact ⟨_, rfl, .writeLength _ hi⟩
    all_goals subst hw; exact ⟨_, rfl, .none⟩

theorem regEffect_of_exec {w : RegBits} {s t : State} (h : exec (decode (.reg w)) s = .next t) : RegEffect w s t := by
  obtain ⟨u, hu, hf⟩ := exec_reg_effect w s
  cases hu.symm.trans h
  exact hf

section
variable (s : State)

/-- A START changes none of the parameters, OBUF.word, the host's beats, the bookkeeping and the frame registers. -/
theorem State.startJob_frame : s.startJob.params = s.params ∧ s.startJob.obufWord = s.obufWord ∧
    s.startJob.taken = s.taken ∧ s.startJob.sched = s.sched ∧ s.startJob.freeIx = s.freeIx ∧
    s.startJob.width = s.width ∧ s.startJob.height = s.height ∧ s.startJob.length = s.length := by
  obtain ⟨-, h⟩ | ⟨-, h⟩ := s.startJob_cases <;> (rw [h]; exact ⟨rfl, rfl, rfl, rfl, rfl, rfl, rfl, rfl⟩)

end

section
variable {w : RegBits} {s t : State}

/-- What no REG transaction touches. -/
theorem RegEffect.frame (h : RegEffect w s t) : t.params = s.params ∧ t.obufWord = s.obufWord ∧ t.taken = s.taken ∧
    t.sched = s.sched ∧ t.freeIx = s.freeIx := by
  cases h with
  | startJob d =>
    obtain ⟨hp, hw, ht, hs, hf, -⟩ := (s.writeIe d).startJob_frame
    exact ⟨hp, hw, ht, hs, hf⟩
  | _ => simp

/-- What only a START on an idle block touches. -/
theorem RegEffect.job (h : RegEffect w s t) (hn : ∀ d, decode (.reg w) = .start d → s.busy = true) :
    t.busy = s.busy ∧ t.inCount = s.inCount ∧ t.outCount = s.outCount ∧ t.obufValid = s.obufValid ∧
      t.hist = s.hist ∧ t.inPix = s.inPix := by
  cases h with
  | startJob d hd hb => exact absurd (hb.symm.trans (hn d hd)) Bool.false_ne_true
  | _ => simp

theorem RegEffect.width (h : RegEffect w s t) (hn : ∀ d, decode (.reg w) ≠ .wrWidth d) : t.width = s.width := by
  cases h with
  | startJob d =>
    obtain ⟨-, -, -, -, -, hw, -⟩ := (s.writeIe d).startJob_frame
    exact hw
  | writeWidth d hd => exact absurd hd (hn d)
  | _ => simp

theorem RegEffect.height (h : RegEffect w s t) (hn : ∀ d, decode (.reg w) ≠ .wrHeight d) : t.height = s.height := by
  cases h with
  | startJob d =>
    obtain ⟨-, -, -, -, -, -, hh, -⟩ := (s.writeIe d).startJob_frame
    exact hh
  | writeHeight d hd => exact absurd hd (hn d)
  | _ => simp

theorem RegEffect.length (h : RegEffect w s t) (hn : ∀ d, decode (.reg w) ≠ .wrLength d) : t.length = s.length := by
  cases h with
  | startJob d =>
    obtain ⟨-, -, -, -, -, -, -, hl⟩ := (s.writeIe d).startJob_frame
    exact hl
  | writeLength d hd => exact absurd hd (hn d)
  | _ => simp

end

/-- Settles O47: the frame of each way a REG word can act. -/
theorem registerTransactionsFrame : Obligations.RegisterTransactionsFrame := by
  intro w s t h
  have hf := regEffect_of_exec h
  obtain ⟨hparams, hword, htaken, hsched, hfree⟩ := hf.frame
  refine ⟨hparams, hword, htaken, hsched, hfree, fun hn => ?job, hf.width, hf.height, hf.length⟩
  case job =>
    obtain ⟨hbusy, hin, hout, hvalid, hhist, hpix⟩ := hf.job hn
    exact ⟨hbusy, hin, hout, hvalid, fun q => by rw [hhist, hpix]; exact ⟨rfl, rfl⟩⟩

/-- Settles O49: `exec_reg_of_running` at a legal state. -/
theorem runningJobIgnoresRegisterTransactions : Obligations.RunningJobIgnoresRegisterTransactions :=
  fun w _ hs hb => exec_reg_of_running w hs.status hb

/-- Settles O15: each counter is the driven result, and a START on an idle block clears both whatever its check says. -/
theorem readCounters : Obligations.ReadCounters := by
  refine ⟨fun d => ⟨decode_reg_read 5 d, decode_reg_read 6 d⟩, fun _ => rfl, fun _ => rfl, fun s d hb => ?start,
    fun s hs => hs.countsLe⟩
  case start =>
    refine ⟨_, exec_start_of_idle d hb, ?_⟩
    obtain ⟨-, h⟩ | ⟨-, h⟩ := (s.writeIe d).startJob_cases <;> (rw [h]; exact ⟨rfl, rfl⟩)

/-- Settles O30: a beat that is not the last is `deliver`, which drops only what no later output reads. -/
theorem pixelOutDeliversObuf : Obligations.PixelOutDeliversObuf :=
  ⟨fun s hv hn => ⟨_, exec_pixelOut_of_not_last hv hn, rfl, fun _ => s.read_deliver_hist⟩,
    fun _ hv => exec_pixelOut_of_wait hv⟩

end Sys2Proof.Machine
end

/-! ### The stream guards (R182, R185, R187) -/

section
namespace Sys2Proof.Machine

section
variable (s : State)

theorem State.avail_iff (p : Nat) : s.avail p = true ↔ min (p + s.width.toNat + 2) s.frameN ≤ s.inCount.toNat :=
  decide_eq_true_iff

/-- R187 as a proposition. -/
theorem State.outOffer_iff : s.outOffer = true ↔
    s.busy = true ∧ s.outCount.toNat < s.frameN ∧ s.avail s.outCount.toNat = true := by
  rw [State.outOffer, Bool.and_eq_true, Bool.and_eq_true, decide_eq_true_eq, and_assoc]

end

/-- Settles O27: each guard as a proposition; IN_COUNT − OUT_COUNT is compared with the subtrahend on either side. -/
theorem streamGuards : Obligations.StreamGuards := by
  refine fun s => ⟨?inAccept, s.avail_iff, s.outOffer_iff, fun c => ?inReady⟩
  case inAccept =>
    rw [s.inAccept_iff, State.look]
    refine and_congr_right fun _ => and_congr_right fun _ => ?_
    omega
  case inReady => rw [inReady, Bool.and_eq_true]

end Sys2Proof.Machine
end

/-! ### A step as its one transaction, and the state after reset (R22, R60, R240) -/

section
namespace Sys2Proof.Machine

/-- A REG word given as a table word is presented as it is (R77). -/
theorem tableCycle_reg (w : RegBits) : tableCycle 40 w.toNat = presentCycle (.reg w) := by
  have hport : tablePort 40 = .reg := rfl
  rw [tableCycle, tableTxn, hport, txnOfBits, if_pos (.inr rfl), if_pos w.isLt, BitVec.ofNat_toNat, BitVec.setWidth_eq]

section
variable {s s0 : State} (h0 : s0 = { s with regQ := none, freeIx := s.freeIx + 1 })
include h0

theorem step_present_reg (w : RegBits) : step (s.present (presentCycle (.reg w))) = exec (decode (.reg w)) s0 := by
  subst h0
  exact runEdge_regOnly { Cycle.idle with reg := some w } _

theorem step_present_pin (w : Word) : step (s.present (presentCycle (.pin w))) =
    if s.inAccept = true then exec (.pixelIn w) s0 else .next s0 := by
  subst h0
  exact runEdge_inOnly _ (some w)

theorem step_present_pout (w : Word) : step (s.present (presentCycle (.pout w))) =
    if s.obufValid = true then exec .pixelOut s0 else .next s0 := by
  subst h0
  have h := runEdge_outOnly { s with regQ := none, freeIx := s.freeIx + 1 } true
  rw [Bool.and_true] at h
  exact h

end

/-- Settles O7: each edge is the phase of its one transaction, which a beat passes only if it transfers. -/
theorem stepRunsDecodedTransaction : Obligations.StepRunsDecodedTransaction := by
  intro s s0 h0
  refine ⟨step_present_reg h0, fun w ha => ?_, fun w ha => ?_, fun w hv => ?_, fun w hv => ?_, fun w => ?_⟩
  · exact (step_present_pin h0 w).trans (if_pos ha)
  · exact (step_present_pin h0 w).trans (if_neg (ne_true_of_eq_false ha))
  · exact (step_present_pout h0 w).trans (if_pos hv)
  · exact (step_present_pout h0 w).trans (if_neg (ne_true_of_eq_false hv))
  · rw [State.withFetchWord, tableCycle_reg]
    exact step_present_reg h0 w

/-- Settles O11: the fields as written in `State.reset`; the block is idle, and CTRL and STATUS read 0. -/
theorem resetStateHoldsSpecValues : Obligations.ResetStateHoldsSpecValues :=
  ⟨rfl, rfl, rfl, rfl, rfl, rfl, rfl, rfl, rfl, rfl, rfl, fun _ => rfl, rfl, rfl, fun c => inReady_of_idle c rfl,
    exec_rdCtrl_of_value (by decide), exec_rdStatus_of_value (by decide)⟩

end Sys2Proof.Machine
end

/-! ### The invariant under each operation (R24, R28, R29, R35, R37, R181, R186) -/

section
namespace Sys2Proof.Machine

/-! #### What an output reads (R154, R185, R190) -/

/-- The window of any index reaches one row and one pixel back and as far ahead. -/
theorem windowIndices_bounds {W p q : Nat} (hq : q ∈ windowIndices W p) : p ≤ q + (W + 1) ∧ q ≤ p + (W + 1) := by
  obtain ⟨i, hi, hq⟩ := List.mem_flatMap.mp hq
  obtain ⟨j, hj, rfl⟩ := List.mem_map.mp hq
  simp only [List.mem_cons, List.not_mem_nil, or_false] at hi hj
  obtain rfl | rfl | rfl := hi <;> omega

/-- R185: where `Avail` holds of `n` accepted inputs, the window of an interior pixel lies among them. -/
theorem windowIndices_lt_of_avail {W H p q n : Nat} (h : interior W H (p / W) (p % W) = true)
    (hn : min (p + W + 2) (W * H) ≤ n) (hq : q ∈ windowIndices W p) : q < n := by
  obtain ⟨-, hahead⟩ := windowIndices_bounds hq
  have hframe : q < W * H := windowIndices_lt_frame h (by rwa [Nat.div_add_mod'])
  omega

/-- R185: where `Avail` holds of `n` accepted inputs, the output depends on these alone. -/
theorem refOut_congr_of_avail {W H p n : Nat} {I J : Nat → Word} (hIJ : ∀ q < n, I q = J q) (hp : p < W * H)
    (hn : min (p + W + 2) (W * H) ≤ n) : refOut W H I p = refOut W H J p := by
  unfold refOut
  have hself : I p = J p := hIJ p (by omega)
  split
  next h =>
    rw [hself, List.map_congr_left fun q hq => congrArg shift (hIJ q (windowIndices_lt_of_avail h hn hq))]
  next => rw [hself]

section
variable {s : State}

theorem JobLegal.read_inPix (h : JobLegal s) {q : Nat} (hq : q < s.inCount.toNat) :
    Memory.read s.inPix q = some (s.input q) := by
  obtain ⟨w, hw⟩ := Option.isSome_iff_exists.mp ((h.inAt q).mpr hq)
  rw [State.input, hw]
  rfl

theorem JobLegal.read_hist (h : JobLegal s) {q : Nat} (hlive : s.outCount.toNat ≤ q + (s.width.toNat + 1))
    (hq : q < s.inCount.toNat) : Memory.read s.hist q = some (shift (s.input q)) :=
  (h.histAt q).trans (if_pos ⟨hlive, hq⟩)

/-- R190: the engine forms the reference output word, without a fault, where it may offer it. -/
theorem JobLegal.outWord_eq (h : JobLegal s) (ho : s.outOffer = true) : outWord s s.outCount.toNat =
    .ok (refOut s.width.toNat s.height.toNat s.input s.outCount.toNat) := by
  obtain ⟨-, hlt, hav⟩ := s.outOffer_iff.mp ho
  rw [State.avail_iff] at hav
  have hin : s.outCount.toNat < s.inCount.toNat := by omega
  rw [outWord, refOut]
  split
  next hi =>
    have hwindow : ∀ q ∈ windowIndices s.width.toNat s.outCount.toNat,
        Memory.read s.hist q = some (shift (s.input q)) := fun q hq =>
      h.read_hist (windowIndices_bounds hq).1 (windowIndices_lt_of_avail hi hav hq)
    rw [Memory.readAll_eq_ok hwindow, h.read_inPix hin]
  next => rw [h.read_hist (by omega) hin]

/-- R250: an output that has been delivered was available. -/
theorem JobLegal.avail_of_lt (h : JobLegal s) {p : Nat} (hp : p < s.outCount.toNat) :
    min (p + s.width.toNat + 2) s.frameN ≤ s.inCount.toNat := by
  have hlag := h.lag
  omega

theorem JobLegal.frameN_bound (h : JobLegal s) : 4 * s.frameN < 2 ^ 32 := by
  have hL := s.length.isLt
  rwa [h.lengthEq, Nat.mul_assoc] at hL

theorem JobLegal.inCount_succ (h : JobLegal s) (ha : s.inAccept = true) :
    (s.inCount + 1).toNat = s.inCount.toNat + 1 := by
  obtain ⟨-, hlt, -⟩ := s.inAccept_iff.mp ha
  have hN := h.frameN_bound
  rw [BitVec.toNat_add]
  exact Nat.mod_eq_of_lt (show s.inCount.toNat + 1 < 2 ^ 32 by omega)

end

/-! #### Operations that leave the job alone -/

section
variable {s : State}

/-- The invariant of a job says nothing of the enables, DONE, ERR, ERRCODE and the bookkeeping. -/
theorem JobLegal.setOthers (h : JobLegal s) (di ei d e : Bool) (k : BitVec 4) (q : Option Word) (f : Nat)
    (l : List Cycle) : JobLegal { s with
      doneIe := di, errIe := ei, done := d, err := e, errcode := k, regQ := q, freeIx := f, sched := l } :=
  ⟨h.widthPos, h.widthMax, h.heightPos, h.lengthEq, h.outLt, h.inLe, h.lookahead, h.lag, h.histAt, h.inAt, h.obuf,
    h.delivered⟩

theorem Legal.setOthers (hs : Legal s) {di ei d e : Bool} {k : BitVec 4} {q : Option Word} {f : Nat}
    {l : List Cycle} (hst : StatusLegal { s with
      doneIe := di, errIe := ei, done := d, err := e, errcode := k, regQ := q, freeIx := f, sched := l }) :
    Legal { s with
      doneIe := di, errIe := ei, done := d, err := e, errcode := k, regQ := q, freeIx := f, sched := l } :=
  ⟨hs.params, hst, ⟨hs.memory.hist, hs.memory.inPix⟩, hs.countsLe, hs.idleEmpty, hs.idleCounts,
    fun hb => (hs.job hb).setOthers ..⟩

theorem StatusLegal.congr {t : State} (h : StatusLegal s) (hb : t.busy = s.busy) (hd : t.done = s.done)
    (he : t.err = s.err) (hc : t.errcode = s.errcode) : StatusLegal t where
  notBusyDone := by rw [hb, hd]; exact h.notBusyDone
  notBusyErr := by rw [hb, he]; exact h.notBusyErr
  notDoneErr := by rw [hd, he]; exact h.notDoneErr
  errcodeIff := by rw [hc, he]; exact h.errcodeIff
  errcodeLe := by rw [hc]; exact h.errcodeLe

theorem Legal.withBook (hs : Legal s) (q : Option Word) (f : Nat) (l : List Cycle) : Legal (s.withBook q f l) :=
  hs.setOthers (hs.status.congr rfl rfl rfl rfl)

theorem Legal.beginEdge (hs : Legal s) : Legal s.beginEdge := hs.withBook ..

theorem Legal.answer (hs : Legal s) (q : Word) : Legal (s.answer q) := hs.withBook ..

theorem Legal.writeIe (hs : Legal s) (d : Word) : Legal (s.writeIe d) :=
  hs.setOthers (hs.status.congr rfl rfl rfl rfl)

/-- R115: clearing DONE, or ERR with its code, leaves STATUS legal. -/
theorem StatusLegal.clearStatus (h : StatusLegal s) (d : Word) : StatusLegal (s.clearStatus d) := by
  have hdone : (s.clearStatus d).done = true → s.done = true := by
    rw [State.clearStatus_done]
    exact Bool.and_elim_left
  have herr : (s.clearStatus d).err = true → s.err = true := by
    rw [State.clearStatus_err]
    exact Bool.and_elim_left
  have hbusy := State.clearStatus_busy s d
  refine ⟨fun hbd => h.notBusyDone ⟨hbusy.symm.trans hbd.1, hdone hbd.2⟩,
    fun hbe => h.notBusyErr ⟨hbusy.symm.trans hbe.1, herr hbe.2⟩,
    fun hde => h.notDoneErr ⟨hdone hde.1, herr hde.2⟩, ?errcodeIff, ?errcodeLe⟩
  case errcodeIff =>
    rw [State.clearStatus_errcode, State.clearStatus_err]
    cases d.getLsbD 2
    · simpa using h.errcodeIff
    · simp
  case errcodeLe =>
    rw [State.clearStatus_errcode]
    split
    · exact Nat.zero_le _
    · exact h.errcodeLe

theorem Legal.clearStatus (hs : Legal s) (d : Word) : Legal (s.clearStatus d) := by
  have hst := hs.status.clearStatus d
  rw [State.clearStatus_eq] at hst ⊢
  exact hs.setOthers hst

/-! #### An idle block, START and reset -/

/-- An idle block has no job to keep. -/
theorem Legal.of_idle (hb : s.busy = false) (hp : s.params.wf) (hst : StatusLegal s) (hm : MemoryCanonical s)
    (hv : s.obufValid = false) (hc : s.inCount = s.outCount) : Legal s where
  params := hp
  status := hst
  memory := hm
  countsLe := by rw [hc]
  idleEmpty := fun _ => hv
  idleCounts := fun _ => hc
  job := fun h => absurd (hb.symm.trans h) Bool.false_ne_true

/-- A legal idle block with another frame programmed. -/
theorem Legal.setFrame (hs : Legal s) (hb : s.busy = false) (w h : BitVec 16) (l : BitVec 32) :
    Legal { s with width := w, height := h, length := l } :=
  .of_idle hb hs.params (hs.status.congr rfl rfl rfl rfl) ⟨hs.memory.hist, hs.memory.inPix⟩ (hs.idleEmpty hb)
    (hs.idleCounts hb)

theorem Legal.writeWidth (hs : Legal s) (d : Word) : Legal (s.writeWidth d) := by
  unfold State.writeWidth
  split
  next => exact hs
  next hb => exact hs.setFrame (eq_false_of_ne_true hb) ..

theorem Legal.writeHeight (hs : Legal s) (d : Word) : Legal (s.writeHeight d) := by
  unfold State.writeHeight
  split
  next => exact hs
  next hb => exact hs.setFrame (eq_false_of_ne_true hb) ..

theorem Legal.writeLength (hs : Legal s) (d : Word) : Legal (s.writeLength d) := by
  unfold State.writeLength
  split
  next => exact hs
  next hb => exact hs.setFrame (eq_false_of_ne_true hb) ..

/-- A START whose check passes begins a job with nothing accepted and nothing delivered (R106). -/
theorem JobLegal.accepted (hc : startCheck s.params s.width s.height s.length = 0) :
    JobLegal s.clearForStart.acceptJob := by
  obtain ⟨hw, hh, hl, hmax⟩ := (startCheck_eq_zero_iff ..).mp hc
  exact {
    widthPos := hw, widthMax := hmax, heightPos := hh, lengthEq := hl
    outLt := Nat.mul_pos hw hh, inLe := Nat.zero_le _, lookahead := Nat.zero_le _, lag := fun _ => Nat.zero_le _
    histAt := fun q => (if_neg fun h => absurd h.2 (Nat.not_lt_zero q)).symm
    inAt := fun q => ⟨fun h => absurd h Bool.false_ne_true, fun h => absurd h (Nat.not_lt_zero q)⟩
    obuf := fun h => absurd h Bool.false_ne_true
    delivered := rfl }

theorem startCheck_le_two (p : Config.Params) (W H : BitVec 16) (L : BitVec 32) :
    (startCheck p W H L).toNat ≤ 2 := by
  obtain ⟨-, hc⟩ | ⟨-, -, hc⟩ | ⟨-, -, hc⟩ := startCheck_cases p W H L <;> (rw [hc]; decide)

/-- R104: a START on an idle block either begins a job or leaves the block idle with its error. -/
theorem Legal.startJob (hs : Legal s) (hb : s.busy = false) : Legal s.startJob := by
  obtain ⟨hc, h⟩ | ⟨hc, h⟩ := s.startJob_cases
  · rw [h]
    exact {
      params := hs.params
      status := ⟨fun h => absurd h.2 Bool.false_ne_true, fun h => absurd h.2 Bool.false_ne_true,
        fun h => absurd h.2 Bool.false_ne_true, iff_of_false (fun h => h rfl) Bool.false_ne_true, Nat.zero_le _⟩
      memory := ⟨Memory.wf_nil, Memory.wf_nil⟩
      countsLe := le_rfl
      idleEmpty := fun _ => rfl
      idleCounts := fun _ => rfl
      job := fun _ => JobLegal.accepted hc }
  · rw [h]
    have hst : StatusLegal (s.clearForStart.raiseInvalidBitmap (startCheck s.params s.width s.height s.length)) :=
      ⟨fun h => absurd h.2 Bool.false_ne_true, fun h => absurd (hb.symm.trans h.1) Bool.false_ne_true,
        fun h => absurd h.1 Bool.false_ne_true, iff_of_true hc rfl, startCheck_le_two ..⟩
    exact .of_idle hb hs.params hst ⟨hs.memory.hist, hs.memory.inPix⟩ (hs.idleEmpty hb) rfl

/-- Every field at its reset value is legal (R240). -/
theorem Legal.of_reset_values (q : Option Word) (hp : s.params.wf) : Legal { s.resetBlock with regQ := q } :=
  .of_idle rfl hp
    ⟨fun h => absurd h.1 Bool.false_ne_true, fun h => absurd h.1 Bool.false_ne_true,
      fun h => absurd h.1 Bool.false_ne_true, iff_of_false (fun h => h rfl) Bool.false_ne_true, Nat.zero_le _⟩
    ⟨Memory.wf_nil, Memory.wf_nil⟩ rfl rfl

theorem Legal.rstEdge (hs : Legal s) (c : Cycle) : Legal (rstEdge c s) := by
  obtain ⟨q, h⟩ := rstEdge_eq_resetBlock c s
  rw [h]
  exact .of_reset_values q hs.params

/-- Settles O51: `State.reset` is its own reset. -/
theorem resetSatisfiesInvariant : Obligations.ResetSatisfiesInvariant :=
  Legal.of_reset_values (s := State.reset) none (by decide)

end

/-! #### The stream beats and the engine's load -/

section
variable {s : State}

/-- The input of a job after one more beat. -/
theorem State.input_recordInput_self (s : State) (w sh : Word) : (s.recordInput w sh).input s.inCount.toNat = w := by
  rw [State.input, s.read_recordInput_inPix_self]
  rfl

theorem State.input_recordInput_of_ne (s : State) (w sh : Word) {q : Nat} (h : q ≠ s.inCount.toNat) :
    (s.recordInput w sh).input q = s.input q := by
  rw [State.input, s.read_recordInput_inPix_of_ne _ _ h]
  rfl

/-- A new input changes no output that was available before it (R185). -/
theorem State.refOut_recordInput (s : State) (w sh : Word) {p : Nat} (hp : p < s.frameN)
    (ha : min (p + s.width.toNat + 2) s.frameN ≤ s.inCount.toNat) :
    refOut s.width.toNat s.height.toNat (s.recordInput w sh).input p =
      refOut s.width.toNat s.height.toNat s.input p :=
  refOut_congr_of_avail (fun _ hq => s.input_recordInput_of_ne w sh (Nat.ne_of_lt hq)) hp ha

/-- R183: an accepted input beat keeps the job's invariant. -/
theorem JobLegal.recordInput (h : JobLegal s) (ha : s.inAccept = true) (w : Word) :
    JobLegal (s.recordInput w (shift w)) := by
  obtain ⟨-, hlt, hroom⟩ := s.inAccept_iff.mp ha
  have hsucc : (s.recordInput w (shift w)).inCount.toNat = s.inCount.toNat + 1 := h.inCount_succ ha
  have hlag := h.lag hlt
  refine ⟨h.widthPos, h.widthMax, h.heightPos, h.lengthEq, h.outLt, ?inLe, ?lookahead, ?lag, fun q => ?histAt,
    fun q => ?inAt, fun hv => ?obuf, ?delivered⟩
  case inLe => rw [hsucc]; exact hlt
  case lookahead => rw [hsucc]; exact hroom
  case lag =>
    rw [hsucc]
    exact fun _ => hlag.trans (Nat.sub_le_sub_right (Nat.le_succ _) _)
  case histAt =>
    rw [hsucc]
    by_cases hq : q = s.inCount.toNat
    · subst hq
      rw [s.read_recordInput_hist_self, s.input_recordInput_self]
      exact (if_pos ⟨show s.outCount.toNat ≤ s.inCount.toNat + (s.width.toNat + 1) by omega, Nat.lt_succ_self _⟩).symm
    · rw [s.read_recordInput_hist_of_ne _ _ hq, s.input_recordInput_of_ne _ _ hq, h.histAt q]
      exact if_congr (and_congr_right fun _ => by omega) rfl rfl
  case inAt =>
    rw [hsucc]
    by_cases hq : q = s.inCount.toNat
    · subst hq
      rw [s.read_recordInput_inPix_self]
      exact iff_of_true rfl (Nat.lt_succ_self _)
    · rw [s.read_recordInput_inPix_of_ne _ _ hq, h.inAt q]
      omega
  case obuf =>
    obtain ⟨ho, hw⟩ := h.obuf hv
    obtain ⟨hb, hout, hav⟩ := s.outOffer_iff.mp ho
    rw [State.avail_iff] at hav
    refine ⟨(State.outOffer_iff _).mpr ⟨hb, hout, (State.avail_iff _ _).mpr ?_⟩,
      hw.trans (s.refOut_recordInput w _ hout hav).symm⟩
    rw [hsucc]
    exact hav.trans (Nat.le_succ _)
  case delivered =>
    refine h.delivered.trans (List.map_congr_left fun p hp => ?_)
    have hp : p < s.outCount.toNat := List.mem_range.mp hp
    exact (s.refOut_recordInput w _ (hp.trans h.outLt) (h.avail_of_lt hp)).symm

theorem Legal.recordInput (hs : Legal s) (ha : s.inAccept = true) (w : Word) : Legal (s.recordInput w (shift w)) := by
  obtain ⟨hb, -, -⟩ := s.inAccept_iff.mp ha
  have hjob := hs.job hb
  exact {
    params := hs.params
    status := hs.status.congr rfl rfl rfl rfl
    memory := ⟨Memory.wf_write hs.memory.hist .., Memory.wf_write hs.memory.inPix ..⟩
    countsLe := hs.countsLe.trans ((Nat.le_succ _).trans (hjob.inCount_succ ha).ge)
    idleEmpty := fun h => absurd (h.symm.trans hb) Bool.false_ne_true
    idleCounts := fun h => absurd (h.symm.trans hb) Bool.false_ne_true
    job := fun _ => hjob.recordInput ha w }

/-- R188: an accepted output beat that is not the last keeps the job's invariant. -/
theorem JobLegal.deliver (h : JobLegal s) (hv : s.obufValid = true) (hn : s.outCount.toNat + 1 ≠ s.frameN) :
    JobLegal s.deliver := by
  have hout := h.outLt
  obtain ⟨ho, -⟩ := h.obuf hv
  obtain ⟨-, -, hav⟩ := s.outOffer_iff.mp ho
  rw [State.avail_iff] at hav
  have hsucc : s.deliver.outCount.toNat = s.outCount.toNat + 1 := h.outCount_succ
  refine ⟨h.widthPos, h.widthMax, h.heightPos, h.lengthEq, ?outLt, h.inLe, ?lookahead, ?lag, fun q => ?histAt,
    h.inAt, fun hv => absurd hv Bool.false_ne_true, ?delivered⟩
  case outLt =>
    rw [hsucc]
    exact Nat.lt_of_le_of_ne hout hn
  case lookahead =>
    rw [hsucc]
    exact h.lookahead.trans (Nat.add_le_add_right (Nat.le_succ _) _)
  case lag =>
    rw [hsucc]
    intro (hlt : s.inCount.toNat < s.frameN)
    show s.outCount.toNat + 1 ≤ s.inCount.toNat - (s.width.toNat + 1)
    omega
  case histAt =>
    rw [State.deliver_hist, Memory.read_dropBelow, h.outCount_succ, hsucc, h.histAt q, ← ite_and]
    refine if_congr ?_ rfl rfl
    show _ ↔ s.outCount.toNat + 1 ≤ q + (s.width.toNat + 1) ∧ q < s.inCount.toNat
    omega
  case delivered =>
    rw [hsucc]
    exact h.delivered_deliver hv

theorem Legal.deliver (hs : Legal s) (hv : s.obufValid = true) (hn : s.outCount.toNat + 1 ≠ s.frameN) :
    Legal s.deliver := by
  have hb := hs.busy_of_obufValid hv
  have hjob := (hs.job hb).deliver hv hn
  exact {
    params := hs.params
    status := hs.status.congr rfl rfl rfl rfl
    memory := ⟨Memory.wf_dropBelow hs.memory.hist _, hs.memory.inPix⟩
    countsLe := by
      have hlag := hjob.lag
      have hle := hjob.outLt
      omega
    idleEmpty := fun _ => rfl
    idleCounts := fun h => absurd (h.symm.trans hb) Bool.false_ne_true
    job := fun _ => hjob }

/-- R110: the last output beat leaves an idle block with DONE and both counters N. -/
theorem Legal.deliver_complete (hs : Legal s) (hv : s.obufValid = true) (hn : s.outCount.toNat + 1 = s.frameN) :
    Legal s.deliver.complete := by
  have hb := hs.busy_of_obufValid hv
  obtain ⟨-, herr, hcode⟩ := hs.status.clear_of_busy hb
  have hst : StatusLegal s.deliver.complete :=
    ⟨fun h => absurd h.1 Bool.false_ne_true, fun h => absurd h.1 Bool.false_ne_true,
      fun h => absurd (herr.symm.trans h.2) Bool.false_ne_true,
      iff_of_false (fun h => h hcode) (ne_true_of_eq_false herr), hs.status.errcodeLe⟩
  refine .of_idle rfl hs.params hst ⟨Memory.wf_dropBelow hs.memory.hist _, hs.memory.inPix⟩ rfl ?_
  apply BitVec.eq_of_toNat_eq
  exact (hs.inCount_of_last hv hn).trans (hn.symm.trans (hs.job hb).outCount_succ.symm)

/-- R187: the load of the reference word keeps the invariant. -/
theorem Legal.loadObuf (hs : Legal s) (ho : s.outOffer = true) :
    Legal (s.loadObuf (refOut s.width.toNat s.height.toNat s.input s.outCount.toNat)) := by
  obtain ⟨hb, -, -⟩ := s.outOffer_iff.mp ho
  have h := hs.job hb
  exact {
    params := hs.params
    status := hs.status.congr rfl rfl rfl rfl
    memory := ⟨hs.memory.hist, hs.memory.inPix⟩
    countsLe := hs.countsLe
    idleEmpty := fun h => absurd (h.symm.trans hb) Bool.false_ne_true
    idleCounts := hs.idleCounts
    job := fun _ => ⟨h.widthPos, h.widthMax, h.heightPos, h.lengthEq, h.outLt, h.inLe, h.lookahead, h.lag, h.histAt,
      h.inAt, fun _ => ⟨ho, rfl⟩, h.delivered⟩ }

/-- Settles O32: the word the engine forms is the reference's; a valid OBUF implies the guard. -/
theorem engineOffersReferencePixel : Obligations.EngineOffersReferencePixel := by
  refine ⟨fun s hs ho hv => ?loads, fun s h => engineLoad_of_not_enabled h, fun s hs hv => ?valid⟩
  case loads =>
    obtain ⟨hb, -, -⟩ := s.outOffer_iff.mp ho
    exact engineLoad_of_loaded ho hv ((hs.job hb).outWord_eq ho)
  case valid => exact ((hs.job (hs.busy_of_obufValid hv)).obuf hv).1

end

/-! #### The phases of an edge, and the step -/

section
variable {s : State}

theorem Legal.of_regEffect {w : RegBits} {t : State} (hs : Legal s) (h : RegEffect w s t) : Legal t := by
  cases h with
  | none => exact hs
  | answer q => exact hs.answer q
  | writeIe d => exact hs.writeIe d
  | startJob d _ hb => exact (hs.writeIe d).startJob hb
  | clearStatus d => exact hs.clearStatus d
  | writeWidth d => exact hs.writeWidth d
  | writeHeight d => exact hs.writeHeight d
  | writeLength d => exact hs.writeLength d

theorem Legal.exists_regPhase (hs : Legal s) (c : Cycle) : ∃ t, regPhase c s = .next t ∧ Legal t := by
  cases hc : c.reg with
  | none => exact ⟨s, by rw [regPhase, hc], hs⟩
  | some w =>
    obtain ⟨t, ht, hf⟩ := exec_reg_effect w s
    exact ⟨t, (regPhase_of_some s hc).trans ht, hs.of_regEffect hf⟩

theorem Legal.exists_execPixelOut (hs : Legal s) : ∃ t, execPixelOut s = .next t ∧ Legal t := by
  obtain ⟨hv, hn, h⟩ | ⟨hv, hn, h⟩ | ⟨-, h⟩ := execPixelOut_cases s
  · exact ⟨_, h, hs.deliver_complete hv hn⟩
  · exact ⟨_, h, hs.deliver hv hn⟩
  · exact ⟨_, h, hs⟩

theorem Legal.exists_outPhase (hs : Legal s) (f : Bool) : ∃ t, outPhase f s = .next t ∧ Legal t := by
  cases f with
  | false => exact ⟨s, rfl, hs⟩
  | true => exact hs.exists_execPixelOut

theorem Legal.exists_inPhase (hs : Legal s) (c : Cycle) (r : Bool) : ∃ t, inPhase c r s = .next t ∧ Legal t := by
  unfold inPhase
  cases c.inBeat with
  | none => exact ⟨s, rfl, hs⟩
  | some w =>
    cases r with
    | false => exact ⟨s, rfl, hs⟩
    | true =>
      obtain ⟨ha, h⟩ | ⟨-, h⟩ := execPixelIn_cases w s
      · exact ⟨_, h, hs.recordInput ha w⟩
      · exact ⟨_, h, hs⟩

theorem Legal.exists_enginePhase (hs : Legal s) (c : Cycle) : ∃ t, enginePhase c s = .next t ∧ Legal t := by
  unfold enginePhase
  split
  · by_cases hn : s.outOffer = false ∨ s.obufValid = true
    · exact ⟨s, engineLoad_of_not_enabled hn, hs⟩
    · obtain ⟨ho, hv⟩ : s.outOffer = true ∧ s.obufValid = false := by simpa using hn
      obtain ⟨hb, -, -⟩ := s.outOffer_iff.mp ho
      exact ⟨_, engineLoad_of_loaded ho hv ((hs.job hb).outWord_eq ho), hs.loadObuf ho⟩
  · exact ⟨s, rfl, hs⟩

/-- From a legal state an edge never stops, and it ends legal. -/
theorem Legal.exists_runEdge (hs : Legal s) (c : Cycle) : ∃ t, runEdge c s = .next t ∧ Legal t := by
  cases hr : c.rst with
  | true => exact ⟨_, runEdge_of_rst s hr, hs.rstEdge c⟩
  | false =>
    obtain ⟨s1, h1, l1⟩ := hs.exists_regPhase c
    obtain ⟨s2, h2, l2⟩ := l1.exists_outPhase (s.obufValid && c.outReady)
    obtain ⟨s3, h3, l3⟩ := l2.exists_inPhase c (inReady c s)
    obtain ⟨t, h4, l4⟩ := l3.exists_enginePhase c
    refine ⟨t, ?_, l4⟩
    rw [runEdge, hr, if_neg Bool.false_ne_true, h1, andThen_next, h2, andThen_next, h3, andThen_next, h4]

theorem Legal.of_runEdge {c : Cycle} {t : State} (hs : Legal s) (h : runEdge c s = .next t) : Legal t := by
  obtain ⟨u, hu, hl⟩ := hs.exists_runEdge c
  cases hu.symm.trans h
  exact hl

/-- Settles O52: the phases of the edge, each of which answers a legal state from a legal state. -/
theorem stepNeverStopsAndKeepsInvariant : Obligations.StepNeverStopsAndKeepsInvariant :=
  fun s hs => hs.beginEdge.exists_runEdge s.nextCycle

end

end Sys2Proof.Machine
end

/-! ### What one edge leaves of the parameters, the delivered beats and the job state (R7, R103, R242) -/

section
namespace Sys2Proof.Machine

section
variable {c : Cycle} {s t : State}

theorem regPhase_cases (h : regPhase c s = .next t) :
    t = s ∨ ∃ w, c.reg = some w ∧ RegEffect w s t := by
  cases hc : c.reg with
  | none =>
    rw [regPhase, hc] at h
    exact .inl (Host.Outcome.next.inj h).symm
  | some w => exact .inr ⟨w, rfl, regEffect_of_exec ((regPhase_of_some s hc).symm.trans h)⟩

theorem regPhase_frame (h : regPhase c s = .next t) :
    t.params = s.params ∧ t.obufWord = s.obufWord ∧ t.taken = s.taken := by
  obtain rfl | ⟨w, -, hf⟩ := regPhase_cases h
  · exact ⟨rfl, rfl, rfl⟩
  · obtain ⟨hparams, hword, htaken, -⟩ := hf.frame
    exact ⟨hparams, hword, htaken⟩

/-- An output beat that transfers hands OBUF.word over, and it starts no job (R110, R188). -/
theorem outPhase_frame {f : Bool} (h : outPhase f s = .next t) : t.params = s.params ∧
    (t.taken = s.taken ∨ f = true ∧ t.taken = s.obufWord :: s.taken) ∧ (t.busy = true → s.busy = true) := by
  obtain ⟨hf, he⟩ | ⟨-, rfl⟩ := outPhase_cases h
  · obtain ⟨-, -, hx⟩ | ⟨-, -, hx⟩ | ⟨-, hx⟩ := execPixelOut_cases s <;> cases hx.symm.trans he
    · exact ⟨rfl, .inr ⟨hf, rfl⟩, fun hb => absurd hb Bool.false_ne_true⟩
    · exact ⟨rfl, .inr ⟨hf, rfl⟩, id⟩
    · exact ⟨rfl, .inl rfl, id⟩
  · exact ⟨rfl, .inl rfl, id⟩

theorem inPhase_frame {r : Bool} (h : inPhase c r s = .next t) :
    t.params = s.params ∧ t.taken = s.taken ∧ t.busy = s.busy := by
  obtain ⟨w, -, -, he⟩ | ⟨-, rfl⟩ := inPhase_cases h
  · obtain ⟨-, hx⟩ | ⟨-, hx⟩ := execPixelIn_cases w s <;> cases hx.symm.trans he <;> exact ⟨rfl, rfl, rfl⟩
  · exact ⟨rfl, rfl, rfl⟩

theorem enginePhase_frame (h : enginePhase c s = .next t) :
    t.params = s.params ∧ t.taken = s.taken ∧ t.busy = s.busy := by
  obtain ⟨-, he⟩ | ⟨-, rfl⟩ := enginePhase_cases h
  · obtain ⟨-, -, w, -, rfl⟩ | ⟨-, rfl⟩ := engineLoad_cases he <;> exact ⟨rfl, rfl, rfl⟩
  · exact ⟨rfl, rfl, rfl⟩

/-- R7, R242: an edge keeps the parameters and the delivered beats, and adds OBUF.word to these when the output beat
transfers. -/
theorem runEdge_params_taken (h : runEdge c s = .next t) : t.params = s.params ∧ (t.taken = s.taken ∨
    s.obufValid = true ∧ c.rst = false ∧ c.outReady = true ∧ t.taken = s.obufWord :: s.taken) := by
  obtain ⟨-, rfl⟩ | ⟨hrst, s1, s2, s3, h1, h2, h3, h4⟩ := runEdge_cases h
  · obtain ⟨q, hq⟩ := rstEdge_eq_resetBlock c s
    rw [hq]
    exact ⟨rfl, .inl rfl⟩
  obtain ⟨hp1, hw1, ht1⟩ := regPhase_frame h1
  obtain ⟨hp2, ht2, -⟩ := outPhase_frame h2
  obtain ⟨hp3, ht3, -⟩ := inPhase_frame h3
  obtain ⟨hp4, ht4, -⟩ := enginePhase_frame h4
  refine ⟨by rw [hp4, hp3, hp2, hp1], ?_⟩
  rw [ht4, ht3, ← ht1, ← hw1]
  obtain ht2 | ⟨hf, ht2⟩ := ht2
  · exact .inl ht2
  · obtain ⟨hv, hr⟩ := Bool.and_eq_true_iff.mp hf
    exact .inr ⟨hv, hrst, hr, ht2⟩

/-- Settles O48: `runEdge_params_taken` at the step's own edge. -/
theorem stepKeepsParametersAndDeliveredBeats : Obligations.StepKeepsParametersAndDeliveredBeats :=
  fun s _ h => runEdge_params_taken (s := s.beginEdge) h

/-- R103: a REG transaction that makes the block busy is a START whose check passes. -/
theorem RegEffect.starts {w : RegBits} (h : RegEffect w s t) (hs : s.busy = false) (ht : t.busy = true) :
    ∃ d, decode (.reg w) = .start d ∧ startCheck s.params s.width s.height s.length = 0 := by
  by_cases hn : ∀ d, decode (.reg w) = .start d → s.busy = true
  · obtain ⟨hbusy, -⟩ := h.job hn
    exact absurd ((hbusy.trans hs).symm.trans ht) Bool.false_ne_true
  · cases h with
    | startJob d hd =>
      obtain ⟨hc, -⟩ | ⟨-, hj⟩ := (s.writeIe d).startJob_cases
      · exact ⟨d, hd, hc⟩
      · rw [hj] at ht
        exact absurd (hs.symm.trans ht) Bool.false_ne_true
    | _ => simp [hs] at ht

/-- R103: an edge at which an idle block comes to run carries a START whose check passes. -/
theorem runEdge_starts (h : runEdge c s = .next t) (hs : s.busy = false) (ht : t.busy = true) :
    c.rst = false ∧ ∃ w d, c.reg = some w ∧ decode (.reg w) = .start d ∧
      startCheck s.params s.width s.height s.length = 0 := by
  obtain ⟨-, rfl⟩ | ⟨hrst, s1, s2, s3, h1, h2, h3, h4⟩ := runEdge_cases h
  · obtain ⟨q, hq⟩ := rstEdge_eq_resetBlock c s
    rw [hq] at ht
    exact absurd ht Bool.false_ne_true
  obtain ⟨-, -, hb2⟩ := outPhase_frame h2
  obtain ⟨-, -, hb3⟩ := inPhase_frame h3
  obtain ⟨-, -, hb4⟩ := enginePhase_frame h4
  have hb1 : s1.busy = true := hb2 (by rw [← hb3, ← hb4, ht])
  obtain rfl | ⟨w, hw, hf⟩ := regPhase_cases h1
  · exact absurd (hs.symm.trans hb1) Bool.false_ne_true
  · obtain ⟨d, hd, hc⟩ := hf.starts hs hb1
    exact ⟨hrst, w, d, hw, hd, hc⟩

end

end Sys2Proof.Machine
end

/-! ### One edge of a running job (R110, R116, R183, R187, R188) -/

section
namespace Sys2Proof.Machine

/-- The output beat of edge `c` transfers (R73). -/
def Cycle.outTransfers (c : Cycle) (s : State) : Bool := s.obufValid && c.outReady

/-- The input beat of edge `c` transfers (R73). -/
def Cycle.inTransfers (c : Cycle) (s : State) : Bool := c.inBeat.isSome && inReady c s

/-- What of the state `s` a running job keeps in the state `t`: that it runs, its frame, and the schedule. -/
structure SameJob (s t : State) : Prop where
  busy : t.busy = s.busy
  params : t.params = s.params
  width : t.width = s.width
  height : t.height = s.height
  sched : t.sched = s.sched

section
variable {s t u : State}

theorem SameJob.refl (s : State) : SameJob s s := ⟨rfl, rfl, rfl, rfl, rfl⟩

theorem SameJob.trans (h : SameJob s t) (k : SameJob t u) : SameJob s u :=
  ⟨k.busy.trans h.busy, k.params.trans h.params, k.width.trans h.width, k.height.trans h.height, k.sched.trans h.sched⟩

theorem SameJob.frameN (h : SameJob s t) : t.frameN = s.frameN := by
  rw [State.frameN, State.frameN, h.width, h.height]

theorem SameJob.look (h : SameJob s t) : t.look = s.look := by
  rw [State.look, State.look, h.width, h.params]

/-- `InAccept` outlives what moves only OUT_COUNT up (R182). -/
theorem SameJob.inAccept (h : SameJob s t) (hin : t.inCount = s.inCount)
    (hout : s.outCount.toNat ≤ t.outCount.toNat) (ha : s.inAccept = true) : t.inAccept = true := by
  obtain ⟨hb, hlt, hroom⟩ := s.inAccept_iff.mp ha
  rw [State.inAccept_iff, h.busy, h.frameN, h.look, hin]
  exact ⟨hb, hlt, by omega⟩

/-- `OutOffer` outlives what moves only IN_COUNT up (R187). -/
theorem SameJob.outOffer (h : SameJob s t) (hin : s.inCount.toNat ≤ t.inCount.toNat)
    (hout : t.outCount = s.outCount) (ho : s.outOffer = true) : t.outOffer = true := by
  obtain ⟨hb, hlt, hav⟩ := s.outOffer_iff.mp ho
  rw [State.avail_iff] at hav
  rw [State.outOffer_iff, State.avail_iff, h.busy, h.frameN, h.width, hout]
  exact ⟨hb, hlt, hav.trans hin⟩

end

/-- What the edge `c` without `rst` makes of a running job that it does not complete. -/
structure JobEdge (c : Cycle) (s t : State) : Prop where
  sameJob : SameJob s t
  inCount : t.inCount = if c.inTransfers s = true then s.inCount + 1 else s.inCount
  outCount : t.outCount = if c.outTransfers s = true then s.outCount + 1 else s.outCount
  /-- OBUF is valid after the edge if its word was not taken or if the engine loads it. -/
  obufValid : t.obufValid = ((s.obufValid && !c.outReady) || (c.engineLoad && t.outOffer))
  /-- A word that is not taken is held (R37). -/
  obufHeld : s.obufValid = true → c.outReady = false → t.obufWord = s.obufWord

section
variable {c : Cycle} {s t : State}

/-- R112: the REG transaction of an edge leaves a running job alone. -/
theorem regPhase_job (h : regPhase c s = .next t) (hb : s.busy = true) : SameJob s t ∧ t.inCount = s.inCount ∧
    t.outCount = s.outCount ∧ t.obufValid = s.obufValid ∧ t.obufWord = s.obufWord := by
  rw [regPhase_of_busy h hb]
  exact ⟨⟨rfl, rfl, rfl, rfl, rfl⟩, rfl, rfl, rfl, rfl⟩

/-- An output beat that is not the last moves OUT_COUNT and empties OBUF when it transfers. -/
theorem outPhase_job {f : Bool} (h : outPhase f s = .next t) (hf : f = true → s.obufValid = true)
    (hn : ¬(f = true ∧ s.outCount.toNat + 1 = s.frameN)) : SameJob s t ∧ t.inCount = s.inCount ∧
      t.outCount = (if f = true then s.outCount + 1 else s.outCount) ∧ t.obufValid = (s.obufValid && !f) ∧
      t.obufWord = s.obufWord := by
  cases f with
  | false =>
    cases h
    exact ⟨.refl s, rfl, rfl, (Bool.and_true _).symm, rfl⟩
  | true =>
    cases (exec_pixelOut_of_not_last (hf rfl) fun hl => hn ⟨rfl, hl⟩).symm.trans h
    exact ⟨⟨rfl, rfl, rfl, rfl, rfl⟩, rfl, rfl, (Bool.and_false _).symm, rfl⟩

/-- An input beat moves IN_COUNT when it transfers, and nothing of the output side. -/
theorem inPhase_job {r : Bool} (h : inPhase c r s = .next t) (hr : r = true → s.inAccept = true) :
    SameJob s t ∧ t.inCount = (if (c.inBeat.isSome && r) = true then s.inCount + 1 else s.inCount) ∧
      t.outCount = s.outCount ∧ t.obufValid = s.obufValid ∧ t.obufWord = s.obufWord := by
  obtain ⟨w, hw, rfl, he⟩ | ⟨hno, rfl⟩ := inPhase_cases h
  · cases (exec_pixelIn_of_accept w (hr rfl)).symm.trans he
    rw [hw]
    exact ⟨⟨rfl, rfl, rfl, rfl, rfl⟩, rfl, rfl, rfl, rfl⟩
  · have hno : (c.inBeat.isSome && r) = false := by obtain hno | hno := hno <;> simp [hno]
    rw [hno]
    exact ⟨.refl t, rfl, rfl, rfl, rfl⟩

/-- The engine moves OBUF alone: it fills an empty one where `OutOffer` holds. -/
theorem enginePhase_job (h : enginePhase c s = .next t) :
    SameJob s t ∧ t.inCount = s.inCount ∧ t.outCount = s.outCount ∧
      t.obufValid = (s.obufValid || (c.engineLoad && t.outOffer)) ∧
      (s.obufValid = true → t.obufWord = s.obufWord) := by
  obtain ⟨hl, he⟩ | ⟨hl, rfl⟩ := enginePhase_cases h
  · obtain ⟨ho, hv, w, -, rfl⟩ | ⟨hno, rfl⟩ := engineLoad_cases he
    · have hot : (s.loadObuf w).outOffer = true := ho
      rw [hl, hot, hv]
      exact ⟨⟨rfl, rfl, rfl, rfl, rfl⟩, rfl, rfl, rfl, fun h => absurd h Bool.false_ne_true⟩
    · refine ⟨.refl t, rfl, rfl, ?_, fun _ => rfl⟩
      obtain hno | hno := hno <;> simp [hno]
  · rw [hl, Bool.false_and, Bool.or_false]
    exact ⟨.refl t, rfl, rfl, rfl, fun _ => rfl⟩

/-- R103, R116: an edge without `rst` completes a running job with its last output beat, or is a `JobEdge`. -/
theorem Legal.runEdge_job (hs : Legal s) (hb : s.busy = true) (hrst : c.rst = false) (h : runEdge c s = .next t) :
    (s.obufValid = true ∧ c.outReady = true ∧ s.outCount.toNat + 1 = s.frameN ∧
      t.busy = false ∧ t.done = true ∧ t.outCount.toNat = s.frameN) ∨ JobEdge c s t := by
  have hjob := hs.job hb
  by_cases hlast : c.outTransfers s = true ∧ s.outCount.toNat + 1 = s.frameN
  · left
    obtain ⟨hf, hn⟩ := hlast
    obtain ⟨hv, hr⟩ := Bool.and_eq_true_iff.mp hf
    obtain ⟨s1, h1, rfl⟩ := runEdge_completes h hb hrst hr hv hn
    rw [regPhase_of_busy h1 hb]
    exact ⟨hv, hr, hn, rfl, rfl, hjob.outCount_succ.trans hn⟩
  right
  obtain ⟨hr, -⟩ | ⟨-, s1, s2, s3, h1, h2, h3, h4⟩ := runEdge_cases h
  · exact absurd (hrst.symm.trans hr) Bool.false_ne_true
  obtain ⟨j1, hin1, hout1, hv1, hw1⟩ := regPhase_job h1 hb
  obtain ⟨j2, hin2, hout2, hv2, hw2⟩ := outPhase_job h2 (fun hf => hv1.trans (Bool.and_elim_left hf))
    (by rw [hout1, j1.frameN]; exact hlast)
  rw [hin1] at hin2
  rw [hout1] at hout2
  have hle : s.outCount.toNat ≤ s2.outCount.toNat := by
    rw [hout2]
    split
    · exact (Nat.le_succ _).trans hjob.outCount_succ.ge
    · exact le_rfl
  obtain ⟨j3, hin3, hout3, hv3, hw3⟩ := inPhase_job h3 fun hr =>
    (j1.trans j2).inAccept hin2 hle (Bool.and_elim_right hr)
  obtain ⟨j4, hin4, hout4, hv4, hw4⟩ := enginePhase_job h4
  have hv3 : s3.obufValid = (s.obufValid && !c.outReady) := by
    rw [hv3, hv2, hv1]
    cases s.obufValid <;> rfl
  exact {
    sameJob := (j1.trans j2).trans (j3.trans j4)
    inCount := by rw [hin4, hin3, hin2]; rfl
    outCount := by rw [hout4, hout3, hout2]; rfl
    obufValid := by rw [hv4, hv3]
    obufHeld := fun hv hr => by rw [hw4 (by rw [hv3, hv, hr]; rfl), hw3, hw2, hw1] }

/-- The step of a running job at an edge that was put before it. -/
theorem Legal.step_present_job (hs : Legal s) (hb : s.busy = true) (hrst : c.rst = false)
    (h : step (s.present c) = .next t) :
    (s.obufValid = true ∧ c.outReady = true ∧ s.outCount.toNat + 1 = s.frameN ∧
      t.busy = false ∧ t.done = true ∧ t.outCount.toNat = s.frameN) ∨ JobEdge c s t := by
  obtain hlast | he := (hs.withBook none (s.freeIx + 1) s.sched).runEdge_job hb hrst h
  · exact .inl hlast
  · exact .inr ⟨⟨he.sameJob.busy, he.sameJob.params, he.sameJob.width, he.sameJob.height, he.sameJob.sched⟩,
      he.inCount, he.outCount, he.obufValid, he.obufHeld⟩

theorem Legal.exists_step_present (hs : Legal s) (c : Cycle) : ∃ t, step (s.present c) = .next t ∧ Legal t :=
  (hs.withBook none (s.freeIx + 1) s.sched).exists_runEdge c

end

/-- Settles O33: a job whose output beat does not transfer is not completed, and holds its word. -/
theorem offeredOutputIsHeld : Obligations.OfferedOutputIsHeld := by
  intro s t c hs hv hrst hr h
  obtain ⟨-, hr', -⟩ | he := hs.step_present_job (hs.busy_of_obufValid hv) hrst h
  · exact absurd (hr.symm.trans hr') Bool.false_ne_true
  · have hno : c.outTransfers s = false := by rw [Cycle.outTransfers, hr, Bool.and_false]
    refine ⟨by rw [he.obufValid, hv, hr]; rfl, he.obufHeld hv hr, by rw [he.outCount, hno]; rfl⟩

/-- Settles O50: into RUN by `runEdge_starts`; out of it by `rst`, or by the completing case of `runEdge_job`. -/
theorem onlyTheseEventsChangeJobState : Obligations.OnlyTheseEventsChangeJobState := by
  refine fun s t hs h => ⟨runEdge_starts (s := s.beginEdge) h, fun hb ht => ?leaves⟩
  case leaves =>
    cases hrst : s.nextCycle.rst with
    | true => exact .inl rfl
    | false =>
      obtain ⟨hv, hr, hn, -, hd, -⟩ | he := hs.beginEdge.runEdge_job hb hrst h
      · exact .inr ⟨hv, hr, hn, hd⟩
      · exact absurd (ht.symm.trans (he.sameJob.busy.trans hb)) Bool.false_ne_true

end Sys2Proof.Machine
end

/-! ### A job that is not fed (R250, R251) -/

section
namespace Sys2Proof.Machine

section
variable {c : Cycle} {s : State}

/-- A job with inputs missing outlives every edge without `rst`: its last output is not yet offered (R187). -/
theorem Legal.exists_jobEdge_of_missing_input (hs : Legal s) (hb : s.busy = true)
    (hmiss : s.inCount.toNat < s.frameN) (hrst : c.rst = false) :
    ∃ t, step (s.present c) = .next t ∧ Legal t ∧ t.busy = true ∧ JobEdge c s t := by
  obtain ⟨t, h, hl⟩ := hs.exists_step_present c
  obtain ⟨hv, -, hn, -⟩ | he := hs.step_present_job hb hrst h
  · exact absurd (hs.inCount_of_last hv hn) (Nat.ne_of_lt hmiss)
  · exact ⟨t, h, hl, he.sameJob.busy.trans hb, he⟩

theorem JobEdge.inCount_of_no_beat {t : State} (he : JobEdge c s t) (hc : c.inBeat = none) : t.inCount = s.inCount := by
  have hno : c.inTransfers s = false := by rw [Cycle.inTransfers, hc]; rfl
  rw [he.inCount, hno]
  rfl

/-- Settles O55: the job goes on with its IN_COUNT, for which the invariant bounds OUT_COUNT. -/
theorem starvedJobHangs : Obligations.StarvedJobHangs := by
  intro s c hs hb hmiss hrst hc
  obtain ⟨t, h, hl, hbt, he⟩ := hs.exists_jobEdge_of_missing_input hb hmiss hrst
  have hin := he.inCount_of_no_beat hc
  have hlag := (hl.job hbt).lag
  rw [hin, he.sameJob.frameN, he.sameJob.width] at hlag
  exact ⟨t, h, hbt, hin, hlag hmiss⟩

/-- R251: with at most one input of two or more pixels nothing is offered and nothing has been delivered. -/
theorem Legal.nothing_out_of_inCount_le_one (hs : Legal s) (hb : s.busy = true) (hN : 2 ≤ s.frameN)
    (hin : s.inCount.toNat ≤ 1) : s.outCount = 0 ∧ s.obufValid = false := by
  have hjob := hs.job hb
  have hlag := hjob.lag (by omega)
  refine ⟨BitVec.eq_of_toNat_eq (show s.outCount.toNat = 0 by omega), eq_false_of_ne_true fun hv => ?_⟩
  obtain ⟨-, -, hav⟩ := s.outOffer_iff.mp (hjob.obuf hv).1
  rw [State.avail_iff] at hav
  omega

/-- R251: a job of two or more pixels with one input accepted stays as it is while no beat is offered. -/
theorem Legal.exists_step_of_one_input (hs : Legal s) (hb : s.busy = true) (hN : 2 ≤ s.frameN) (hin : s.inCount = 1)
    (hrst : c.rst = false) (hc : c.inBeat = none) : ∃ t, step (s.present c) = .next t ∧ Legal t ∧ t.busy = true ∧
      t.inCount = 1 ∧ t.frameN = s.frameN := by
  have hin1 : s.inCount.toNat = 1 := by rw [hin]; rfl
  obtain ⟨t, h, hl, hbt, he⟩ := hs.exists_jobEdge_of_missing_input hb (by omega) hrst
  exact ⟨t, h, hl, hbt, (he.inCount_of_no_beat hc).trans hin, he.sameJob.frameN⟩

/-- An edge at which the host pushes into a new job: the beat transfers exactly where the engine is willing. -/
theorem Legal.exists_step_of_first_push (hs : Legal s) (hb : s.busy = true) (hN : 2 ≤ s.frameN) (hin : s.inCount = 0)
    (w : Word) (e : EngineChoice) :
    inReady ((HostLine.txn (asmPush w)).cycle e) s = e.ready ∧
    ∃ t, step (s.present ((HostLine.txn (asmPush w)).cycle e)) = .next t ∧ Legal t ∧ t.busy = true ∧
      t.inCount = (if e.ready = true then 1 else 0) ∧ t.frameN = s.frameN := by
  have hin0 : s.inCount.toNat = 0 := by rw [hin]; rfl
  have ha : s.inAccept = true := by
    refine s.inAccept_iff.mpr ⟨hb, by omega, ?_⟩
    rw [State.look]
    omega
  have hready : inReady ((HostLine.txn (asmPush w)).cycle e) s = e.ready := by
    rw [inReady, ha, Bool.and_true]
    rfl
  obtain ⟨t, h, hl, hbt, he⟩ := hs.exists_jobEdge_of_missing_input hb (by omega) (HostLine.cycle_rst _ e)
  have htransfers : ((HostLine.txn (asmPush w)).cycle e).inTransfers s = e.ready := hready
  refine ⟨hready, t, h, hl, hbt, ?_, he.sameJob.frameN⟩
  rw [he.inCount, htransfers, hin]
  rfl

end

/-- R251: at a `pop` with one input accepted the host waits, whatever the engine does. -/
theorem lockStep_pop_waits (rest : List HostLine) (es : List EngineChoice) {s : State} (hs : Legal s)
    (hb : s.busy = true) (hN : 2 ≤ s.frameN) (hin : s.inCount = 1) :
    ∃ t, HostRun.run es { lines := .txn asmPop :: rest, block := s } =
        .next { lines := .txn asmPop :: rest, block := t } ∧
      Legal t ∧ t.busy = true ∧ 2 ≤ t.frameN ∧ t.inCount = 1 := by
  induction es generalizing s with
  | nil => exact ⟨s, rfl, hs, hb, hN, hin⟩
  | cons e es ih =>
    obtain ⟨-, hv⟩ := hs.nothing_out_of_inCount_le_one hb hN (by rw [hin]; exact le_rfl)
    obtain ⟨t, h, hl, hbt, hint, hNt⟩ := hs.exists_step_of_one_input hb hN hin (HostLine.cycle_rst (.txn asmPop) e) rfl
    have hedge : HostRun.edge { lines := .txn asmPop :: rest, block := s } e =
        .next { lines := .txn asmPop :: rest, block := t } := by
      refine HostRun.edge_eq_next.mpr ⟨h, ?_⟩
      rw [HostRun.linesAfter_cons, asmPop, HostLine.completes_pout, hv]
      rfl
    rw [HostRun.run_cons_of_next es hedge]
    exact ih hl hbt (hNt ▸ hN) hint

/-- R251: a lock-step program stays at its first push until the engine is willing, and then at its first pop. -/
theorem lockStep_run (w : Word) (rest : List HostLine) (es : List EngineChoice) {s : State} (hs : Legal s)
    (hb : s.busy = true) (hN : 2 ≤ s.frameN) (hin : s.inCount = 0) :
    ∃ r, HostRun.run es { lines := .txn (asmPush w) :: .txn asmPop :: rest, block := s } = .next r ∧
      Legal r.block ∧ r.block.busy = true ∧ 2 ≤ r.block.frameN ∧
      r.block.inCount = (if es.any (·.ready) then 1 else 0) ∧
      r.lines = if es.any (·.ready) then .txn asmPop :: rest else .txn (asmPush w) :: .txn asmPop :: rest := by
  induction es generalizing s with
  | nil => exact ⟨_, rfl, hs, hb, hN, hin, rfl⟩
  | cons e es ih =>
    obtain ⟨hready, t, h, hl, hbt, hint, hNt⟩ := hs.exists_step_of_first_push hb hN hin w e
    have hedge : HostRun.edge { lines := .txn (asmPush w) :: .txn asmPop :: rest, block := s } e = .next
        { lines := if e.ready then .txn asmPop :: rest else .txn (asmPush w) :: .txn asmPop :: rest, block := t } := by
      refine HostRun.edge_eq_next.mpr ⟨h, ?_⟩
      have hcompletes :
          (HostLine.txn (asmPush w)).completes ((HostLine.txn (asmPush w)).cycle e) s t = e.ready := hready
      rw [HostRun.cycle_cons, HostRun.linesAfter_cons, hcompletes]
    rw [HostRun.run_cons_of_next es hedge]
    cases hr : e.ready with
    | false =>
      rw [List.any_cons, hr, Bool.false_or]
      rw [hr] at hint
      exact ih hl hbt (hNt ▸ hN) hint
    | true =>
      rw [List.any_cons, hr, Bool.true_or]
      rw [hr] at hint
      obtain ⟨u, hu, hlu, hbu, hNu, hinu⟩ := lockStep_pop_waits rest es hl hbt (hNt ▸ hN) hint
      exact ⟨_, hu, hlu, hbu, hNu, hinu, rfl⟩

/-- Settles O56: one edge without a beat, and the run of the program; in either the invariant then shuts out an output,
because fewer inputs are accepted than the first output needs. -/
theorem lockStepHostDeadlocks : Obligations.LockStepHostDeadlocks := by
  refine ⟨fun s c hs hb hN hin _ _ hrst hc => ?oneEdge, fun s w rest es hs hb hN hin _ _ => ?program⟩
  case oneEdge =>
    obtain ⟨t, h, hl, hbt, hint, hNt⟩ := hs.exists_step_of_one_input hb hN hin hrst hc
    obtain ⟨hout, hv⟩ := hl.nothing_out_of_inCount_le_one hbt (hNt ▸ hN) (by rw [hint]; exact le_rfl)
    exact ⟨t, h, hbt, hint, hout, hv, hNt⟩
  case program =>
    obtain ⟨r, h, hl, hbr, hNr, hinr, hlines⟩ := lockStep_run w rest es hs hb hN hin
    have hle : r.block.inCount.toNat ≤ 1 := by
      rw [hinr]
      split <;> decide
    obtain ⟨hout, hv⟩ := hl.nothing_out_of_inCount_le_one hbr hNr hle
    exact ⟨r, h, hbr, hout, hv, hinr, hlines⟩

end Sys2Proof.Machine
end

/-! ### HIST's size, and the output as a function of the input (R35, R38, R186) -/

section
namespace Sys2Proof.Machine

section
variable {s t : State}

/-- A map in canonical form whose indices all lie from `a` to `a + n − 1` has at most `n` entries. -/
theorem Memory.length_le_of_range {m : Memory} (hm : Memory.wf m) {a n : Nat}
    (h : ∀ e ∈ m, a ≤ e.1 ∧ e.1 < a + n) : m.length ≤ n := by
  have hnodup : (m.map Prod.fst).Nodup := List.pairwise_map.mpr (hm.imp Nat.ne_of_lt)
  have hsub : m.map Prod.fst ⊆ List.range' a n := fun q hq => by
    obtain ⟨e, he, rfl⟩ := List.mem_map.mp hq
    exact List.mem_range'_1.mpr (h e he)
  simpa using (List.subperm_of_subset hnodup hsub).length_le

/-- R186: HIST holds only live entries, from OUT_COUNT − W − 1 to IN_COUNT − 1. -/
theorem JobLegal.hist_live (h : JobLegal s) {e : Nat × Word} (he : e ∈ s.hist) :
    s.outCount.toNat ≤ e.1 + (s.width.toNat + 1) ∧ e.1 < s.inCount.toNat := by
  have hread : (Memory.read s.hist e.1).isSome = true := Memory.read_isSome_iff_mem.mpr ⟨e.2, he⟩
  rw [h.histAt] at hread
  by_contra hdead
  rw [if_neg hdead] at hread
  exact Bool.false_ne_true hread

/-- R186: the live window is no longer than the lookahead and a row and a pixel behind. -/
theorem Legal.hist_length_le (hs : Legal s) (hb : s.busy = true) :
    s.hist.length ≤ 2 * s.width.toNat + 3 + s.params.slack := by
  have hjob := hs.job hb
  have hlook := hjob.lookahead
  rw [State.look] at hlook
  refine Memory.length_le_of_range (a := s.outCount.toNat - (s.width.toNat + 1)) hs.memory.hist fun e he => ?_
  have hlive := hjob.hist_live he
  omega

/-- Settles O57: the bound in W, and W is at most MAX_WIDTH. -/
theorem histFitsLineBuffer : Obligations.HistFitsLineBuffer := by
  intro s hs hb
  have hle := hs.hist_length_le hb
  have hmax := (hs.job hb).widthMax
  exact ⟨hle, by omega⟩

/-- Two jobs of one input agree on every pixel that both have accepted. -/
theorem SameJobInput.input_eq (h : SameJobInput s t) (hs : JobLegal s) (ht : JobLegal t) :
    ∀ q < min s.inCount.toNat t.inCount.toNat, s.input q = t.input q := fun q hq => by
  obtain ⟨-, -, hin⟩ := h
  exact hin q _ _ (hs.read_inPix (by omega)) (ht.read_inPix (by omega))

theorem SameJobInput.frameN (h : SameJobInput s t) : s.frameN = t.frameN := by
  obtain ⟨hw, hh, -⟩ := h
  rw [State.frameN, State.frameN, hw, hh]

/-- R38: an output that is available in two jobs of one input is the same in both. -/
theorem SameJobInput.refOut_eq (h : SameJobInput s t) (hs : JobLegal s) (ht : JobLegal t) {p : Nat}
    (hp : p < s.frameN) (has : min (p + s.width.toNat + 2) s.frameN ≤ s.inCount.toNat)
    (hat : min (p + t.width.toNat + 2) t.frameN ≤ t.inCount.toNat) :
    refOut s.width.toNat s.height.toNat s.input p = refOut t.width.toNat t.height.toNat t.input p := by
  obtain ⟨hw, hh, -⟩ := id h
  rw [← hw, ← h.frameN] at hat
  rw [← hw, ← hh]
  exact refOut_congr_of_avail (h.input_eq hs ht) hp (le_min has hat)

/-- Settles O58: delivered and offered words are reference outputs, and each was available when it left. -/
theorem outputDependsOnInputAlone : Obligations.OutputDependsOnInputAlone := by
  intro s t hs ht hbs hbt h hout
  have js := hs.job hbs
  have jt := ht.job hbt
  refine ⟨?delivered, fun hvs hvt => ?offered⟩
  case delivered =>
    rw [js.delivered, jt.delivered, ← hout]
    refine List.map_congr_left fun p hp => ?_
    have hp : p < s.outCount.toNat := List.mem_range.mp hp
    exact h.refOut_eq js jt (hp.trans js.outLt) (js.avail_of_lt hp) (jt.avail_of_lt (hout ▸ hp))
  case offered =>
    obtain ⟨hos, hws⟩ := js.obuf hvs
    obtain ⟨hot, hwt⟩ := jt.obuf hvt
    obtain ⟨-, -, has⟩ := s.outOffer_iff.mp hos
    obtain ⟨-, -, hat⟩ := t.outOffer_iff.mp hot
    rw [State.avail_iff] at has hat
    rw [← hout] at hwt hat
    rw [hws, hwt]
    exact h.refOut_eq js jt js.outLt has hat

end

end Sys2Proof.Machine
end

/-! ### Progress (R187, R189, R255) -/

section
namespace Sys2Proof.Machine

/-- The transfers and loads a running job still needs: an input beat for each missing input, a load and an output beat
for each missing output, but for a load that has happened. -/
def State.remaining (s : State) : Nat :=
  (s.frameN - s.inCount.toNat) + 2 * (s.frameN - s.outCount.toNat) - s.obufValid.toNat

section
variable {c : Cycle} {s t : State}

theorem JobEdge.outCount_toNat (he : JobEdge c s t) (h : JobLegal s) :
    t.outCount.toNat = s.outCount.toNat + (c.outTransfers s).toNat := by
  rw [he.outCount]
  cases c.outTransfers s
  · rfl
  · exact h.outCount_succ

theorem JobEdge.inCount_toNat (he : JobEdge c s t) (h : JobLegal s) :
    t.inCount.toNat = s.inCount.toNat + (c.inTransfers s).toNat := by
  rw [he.inCount]
  cases hc : c.inTransfers s
  · rfl
  · exact h.inCount_succ (Bool.and_elim_right (Bool.and_elim_right hc))

/-- R187: an output that may be offered and is not taken may still be offered. -/
theorem JobEdge.outOffer (he : JobEdge c s t) (h : JobLegal s) (ho : s.outOffer = true)
    (hno : c.outTransfers s = false) : t.outOffer = true := by
  refine he.sameJob.outOffer ?_ (by rw [he.outCount, hno]; rfl) ho
  rw [he.inCount_toNat h]
  exact Nat.le_add_right ..

/-- Only a valid word is taken, and OBUF stays valid unless it is. -/
theorem JobEdge.obufValid_bounds (he : JobEdge c s t) : (c.outTransfers s).toNat ≤ s.obufValid.toNat ∧
    s.obufValid.toNat ≤ t.obufValid.toNat + (c.outTransfers s).toNat := by
  rw [he.obufValid, Cycle.outTransfers]
  cases s.obufValid <;> cases c.outReady <;> simp

/-- What an edge takes from the work that remains: one for an input beat, two for an output beat and its load, and the
load in OBUF is counted on either side. -/
theorem JobEdge.remaining_eq (he : JobEdge c s t) (hs : JobLegal s) (ht : JobLegal t) :
    t.remaining + ((c.inTransfers s).toNat + 2 * (c.outTransfers s).toNat + t.obufValid.toNat) =
      s.remaining + s.obufValid.toNat := by
  have hin := he.inCount_toNat hs
  have hout := he.outCount_toNat hs
  have hinLe := ht.inLe
  have houtLt := ht.outLt
  have hvs := Bool.toNat_le s.obufValid
  have hvt := Bool.toNat_le t.obufValid
  rw [he.sameJob.frameN] at hinLe houtLt
  rw [State.remaining, State.remaining, he.sameJob.frameN]
  omega

/-- Something happens for the job at the edge `c` from `s` to `t`: an input beat, an output beat, or a load. -/
def Cycle.Progress (c : Cycle) (s t : State) : Prop :=
  c.inTransfers s = true ∨ c.outTransfers s = true ∨ (s.obufValid = false ∧ t.obufValid = true)

theorem JobEdge.remaining_le (he : JobEdge c s t) (hs : JobLegal s) (ht : JobLegal t) :
    t.remaining ≤ s.remaining := by
  have heq := he.remaining_eq hs ht
  have hv := he.obufValid_bounds
  omega

theorem JobEdge.remaining_lt (he : JobEdge c s t) (hs : JobLegal s) (ht : JobLegal t) (hp : c.Progress s t) :
    t.remaining < s.remaining := by
  have heq := he.remaining_eq hs ht
  have hv := he.obufValid_bounds
  obtain hi | ho | ⟨hvs, hvt⟩ := hp
  · rw [hi, Bool.toNat_true] at heq
    omega
  · rw [ho, Bool.toNat_true] at heq hv
    omega
  · rw [hvs, hvt, Bool.toNat_true, Bool.toNat_false] at heq
    omega

theorem JobLegal.remaining_pos (h : JobLegal s) : 0 < s.remaining := by
  have hlt := h.outLt
  have hv := Bool.toNat_le s.obufValid
  rw [State.remaining]
  omega

theorem State.remaining_le (s : State) : s.remaining ≤ 3 * s.frameN := by
  rw [State.remaining]
  omega

/-- R189: a running job can always accept an input or offer an output. -/
theorem JobLegal.accepts_or_offers (h : JobLegal s) (hb : s.busy = true) : s.inAccept = true ∨ s.outOffer = true := by
  have hout := h.outLt
  have hin := h.inLe
  rw [s.inAccept_iff, s.outOffer_iff, State.avail_iff, State.look]
  by_cases ha : s.inCount.toNat < s.frameN ∧ s.inCount.toNat < s.outCount.toNat + (s.width.toNat + 2 + s.params.slack)
  · exact .inl ⟨hb, ha⟩
  · exact .inr ⟨hb, hout, by omega⟩

/-! #### Edges at which everyone cooperates (R189) -/

theorem Cycle.cooperative_iff (c : Cycle) : c.cooperative = true ↔ c.rst = false ∧ c.inBeat.isSome = true ∧
    c.outReady = true ∧ c.engineReady = true ∧ c.engineLoad = true := by
  simp only [Cycle.cooperative, Bool.and_eq_true, Bool.not_eq_true', and_assoc]

/-- At a cooperative edge an offered word is taken; with none, a beat is accepted or, where none can be, a word is
loaded. -/
theorem JobEdge.progress_of_cooperative (he : JobEdge c s t) (h : JobLegal s) (hb : s.busy = true)
    (hc : c.cooperative = true) : c.Progress s t := by
  obtain ⟨-, hbeat, hout, hready, hload⟩ := c.cooperative_iff.mp hc
  cases hv : s.obufValid with
  | true => exact .inr (.inl (by rw [Cycle.outTransfers, hv, hout]; rfl))
  | false =>
    obtain ha | ho := h.accepts_or_offers hb
    · exact .inl (by rw [Cycle.inTransfers, inReady, hbeat, hready, ha]; rfl)
    · have hno : c.outTransfers s = false := by rw [Cycle.outTransfers, hv]; rfl
      have hvt : t.obufValid = true := by rw [he.obufValid, hload, he.outOffer h ho hno, Bool.true_and, Bool.or_true]
      exact .inr (.inr ⟨hv, hvt⟩)

/-- R189: a running job completes within as many cooperative edges as it still needs transfers and loads. -/
theorem exists_run_completes (k : Nat) {s : State} (hs : Legal s) (hb : s.busy = true)
    (hcoop : ∀ c ∈ s.sched, c.cooperative = true) (hk : s.remaining ≤ k) (hlen : k ≤ s.sched.length) :
    ∃ j t, j ≤ k ∧ Host.Core.run core j s = .next t ∧ t.done = true ∧ t.outCount.toNat = s.frameN := by
  induction k generalizing s with
  | zero => exact absurd (hs.job hb).remaining_pos (Nat.not_lt.mpr hk)
  | succ k ih =>
    obtain ⟨c, l, hcl⟩ := List.exists_cons_of_length_pos (Nat.lt_of_lt_of_le k.succ_pos hlen)
    rw [hcl] at hcoop
    have hc := hcoop c List.mem_cons_self
    obtain ⟨hrst, -⟩ := c.cooperative_iff.mp hc
    have hnext : s.nextCycle = c := by rw [State.nextCycle, hcl]
    obtain ⟨t, h, hl⟩ := hs.beginEdge.exists_runEdge c
    have hstep : step s = .next t := by rw [step, hnext, h]
    obtain ⟨-, -, -, -, hdone, hout⟩ | he := hs.beginEdge.runEdge_job hb hrst h
    · exact ⟨1, t, Nat.le_add_left 1 k, run_succ_of_next 0 hstep, hdone, hout⟩
    · have hbt := he.sameJob.busy.trans hb
      have hsched : t.sched = l := he.sameJob.sched.trans (congrArg List.tail hcl)
      have hjob := hs.beginEdge.job hb
      have hless : t.remaining < s.remaining :=
        he.remaining_lt hjob (hl.job hbt) (he.progress_of_cooperative hjob hb hc)
      have hlen : k ≤ t.sched.length := by
        rw [hcl, List.length_cons] at hlen
        rw [hsched]
        exact Nat.le_of_succ_le_succ hlen
      obtain ⟨j, u, hj, hu, hdone, hout⟩ := ih hl hbt (hsched ▸ fun e he => hcoop e (List.mem_cons_of_mem _ he))
        (Nat.le_of_lt_succ (Nat.lt_of_lt_of_le hless hk)) hlen
      exact ⟨j + 1, u, Nat.succ_le_succ hj, (run_succ_of_next j hstep).trans hu, hdone, hout.trans he.sameJob.frameN⟩

/-- Settles O54: what remains of a job is at most 3N. -/
theorem cooperativeJobCompletes : Obligations.CooperativeJobCompletes :=
  fun s hs hb hcoop hlen => exists_run_completes (3 * s.frameN) hs hb hcoop s.remaining_le hlen

/-! #### Weak fairness (R255) -/

/-- An enabled load stays enabled until the edge at which the engine acts, and happens there (R187). -/
theorem JobEdge.load_of_enabled (he : JobEdge c s t) (h : JobLegal s) (ho : s.outOffer = true)
    (hv : s.obufValid = false) : t.outOffer = true ∧ t.obufValid = c.engineLoad := by
  have hot := he.outOffer h ho (by rw [Cycle.outTransfers, hv]; rfl)
  exact ⟨hot, by rw [he.obufValid, hv, hot, Bool.false_and, Bool.false_or, Bool.and_true]⟩

theorem Legal.exists_step_of_loadEnabled (hs : Legal s) (hen : s.loadEnabled = true)
    (hrst : s.nextCycle.rst = false) : ∃ t, step s = .next t ∧ Legal t ∧ t.sched = s.sched.tail ∧
      t.outOffer = true ∧ t.obufValid = s.nextCycle.engineLoad := by
  obtain ⟨ho, hv⟩ := s.loadEnabled_iff.mp hen
  obtain ⟨hb, -, -⟩ := s.outOffer_iff.mp ho
  obtain ⟨t, h, hl⟩ := hs.beginEdge.exists_runEdge s.nextCycle
  obtain ⟨hv', -⟩ | he := hs.beginEdge.runEdge_job hb hrst h
  · exact absurd (hv.symm.trans hv') Bool.false_ne_true
  · exact ⟨t, h, hl, he.sameJob.sched, he.load_of_enabled (hs.beginEdge.job hb) ho hv⟩

/-- R187: an enabled load happens no later than one edge past the schedule's end. -/
theorem exists_run_loads (l : List Cycle) {s : State} (hsched : s.sched = l) (hs : Legal s)
    (hen : s.loadEnabled = true) (hrst : ∀ c ∈ l, c.rst = false) :
    ∃ k t, k ≤ l.length + 1 ∧ Host.Core.run core k s = .next t ∧ t.obufValid = true := by
  induction l generalizing s with
  | nil =>
    have hc := State.nextCycle_of_sched_nil hsched
    obtain ⟨t, hstep, -, -, -, hvt⟩ := hs.exists_step_of_loadEnabled hen (by rw [hc]; rfl)
    exact ⟨1, t, le_rfl, run_succ_of_next 0 hstep, by rw [hvt, hc]; rfl⟩
  | cons c l ih =>
    have hc : s.nextCycle = c := by rw [State.nextCycle, hsched]
    obtain ⟨t, hstep, hl, htail, hot, hvt⟩ :=
      hs.exists_step_of_loadEnabled hen (by rw [hc]; exact hrst c List.mem_cons_self)
    rw [hsched, List.tail_cons] at htail
    cases hv : t.obufValid with
    | true => exact ⟨1, t, Nat.le_add_left .., run_succ_of_next 0 hstep, hv⟩
    | false =>
      obtain ⟨k, u, hk, hu, hvu⟩ := ih htail hl (t.loadEnabled_iff.mpr ⟨hot, hv⟩)
        fun e he => hrst e (List.mem_cons_of_mem _ he)
      exact ⟨k + 1, u, Nat.succ_le_succ hk, (run_succ_of_next k hstep).trans hu, hvu⟩

end

/-- From edge `n` on the run stays in one job and nothing happens for it. -/
def StalledFrom (edges : Nat → Cycle) (states : Nat → State) (n : Nat) : Prop :=
  ∀ k, n ≤ k → Legal (states k) ∧ (states k).busy = true ∧ JobEdge (edges k) (states k) (states (k + 1)) ∧
    ¬(edges k).Progress (states k) (states (k + 1))

section
variable {edges : Nat → Cycle} {states : Nat → State} {n : Nat}

theorem StalledFrom.mono (h : StalledFrom edges states n) {m : Nat} (hm : n ≤ m) : StalledFrom edges states m :=
  fun k hk => h k (hm.trans hk)

/-- A stalled run offers no word, because the host would take it. -/
theorem StalledFrom.obufValid (h : StalledFrom edges states n) (hh : HostServes edges states) :
    (states n).obufValid = false := by
  obtain ⟨-, -, -, hno⟩ := h n le_rfl
  refine eq_false_of_ne_true fun hv => hno (.inr (.inl ?_))
  rw [Cycle.outTransfers, hv, hh.takes n hv]
  rfl

/-- In a stalled run an offer that may be made may be made ever after. -/
theorem StalledFrom.outOffer_of_le (h : StalledFrom edges states n) (hh : HostServes edges states)
    (ho : (states n).outOffer = true) {k : Nat} (hk : n ≤ k) : (states k).outOffer = true := by
  induction k, hk using Nat.le_induction with
  | base => exact ho
  | succ k hk ih =>
    obtain ⟨hs, hb, he, -⟩ := h k hk
    exact (he.load_of_enabled (hs.job hb) ih ((h.mono hk).obufValid hh)).1

/-- In a stalled run no load is enabled, because the engine would come to do it (R187). -/
theorem StalledFrom.outOffer (h : StalledFrom edges states n) (hf : LoadFair edges states)
    (hh : HostServes edges states) : (states n).outOffer = false := by
  refine eq_false_of_ne_true fun ho => ?_
  have henabled : ∀ k, n ≤ k → (states k).outOffer = true ∧ (states k).obufValid = false := fun k hk =>
    ⟨h.outOffer_of_le hh ho hk, (h.mono hk).obufValid hh⟩
  obtain ⟨m, hm, hload⟩ := hf n fun k hk => (states k).loadEnabled_iff.mpr (henabled k hk)
  obtain ⟨hs, hb, he, -⟩ := h m hm
  obtain ⟨hom, hvm⟩ := henabled m hm
  obtain ⟨-, hloaded⟩ := he.load_of_enabled (hs.job hb) hom hvm
  have hempty := (h.mono (hm.trans (Nat.le_succ m))).obufValid hh
  exact Bool.false_ne_true (hempty.symm.trans (hloaded.trans hload))

/-- No weakly fair run with a host that serves is stalled: it would for ever be able to accept a beat (R182). -/
theorem StalledFrom.not_fair (h : StalledFrom edges states n) (hf : WeaklyFair edges states)
    (hh : HostServes edges states) : False := by
  have haccept : ∀ k, n ≤ k → (states k).inAccept = true := fun k hk => by
    obtain ⟨hs, hb, -, -⟩ := h k hk
    obtain ha | ho := (hs.job hb).accepts_or_offers hb
    · exact ha
    · exact absurd (((h.mono hk).outOffer hf.load hh).symm.trans ho) Bool.false_ne_true
  obtain ⟨m, hm, hready⟩ := hf.accept n fun k hk => ⟨haccept k hk, hh.offers k (haccept k hk)⟩
  obtain ⟨-, -, -, hno⟩ := h m hm
  refine hno (.inl ?_)
  rw [Cycle.inTransfers, hready, hh.offers m (haccept m hm)]
  rfl

/-- One edge of a run: the job completes, or goes on. -/
theorem IsRun.completes_or_goes_on (hr : IsRun edges states) (hh : HostServes edges states)
    (hs : Legal (states n)) (hb : (states n).busy = true) :
    ((states (n + 1)).done = true ∧ (states (n + 1)).outCount.toNat = (states n).frameN) ∨
    (Legal (states (n + 1)) ∧ (states (n + 1)).busy = true ∧ JobEdge (edges n) (states n) (states (n + 1))) := by
  obtain ⟨t, ht, hl⟩ := hs.exists_step_present (edges n)
  cases ht.symm.trans (hr n)
  obtain ⟨-, -, -, -, hd, hout⟩ | he := hs.step_present_job hb (hh.noReset n) ht
  · exact .inl ⟨hd, hout⟩
  · exact .inr ⟨hl, he.sameJob.busy.trans hb, he⟩

/-- R189, R255: by induction on what remains of the job, since a run in which it never became less would be stalled. -/
theorem fairRun_completes (hr : IsRun edges states) (hf : WeaklyFair edges states) (hh : HostServes edges states)
    (hs : Legal (states n)) (hb : (states n).busy = true) :
    ∃ m, (states m).done = true ∧ (states m).outCount.toNat = (states n).frameN := by
  induction hrem : (states n).remaining using Nat.strong_induction_on generalizing n with
  | _ r ih =>
    by_contra hnever
    have hkeeps : ∀ k, n ≤ k → Legal (states k) ∧ (states k).busy = true ∧ (states k).frameN = (states n).frameN ∧
        (states k).remaining = r := fun k hk => by
      induction k, hk using Nat.le_induction with
      | base => exact ⟨hs, hb, rfl, hrem⟩
      | succ k hk ihk =>
        obtain ⟨hsk, hbk, hNk, hremk⟩ := ihk
        obtain ⟨hd, hout⟩ | ⟨hl, hbt, he⟩ := hr.completes_or_goes_on hh hsk hbk
        · exact absurd ⟨k + 1, hd, hout.trans hNk⟩ hnever
        have hN := he.sameJob.frameN.trans hNk
        have hle := he.remaining_le (hsk.job hbk) (hl.job hbt)
        rw [hremk] at hle
        refine ⟨hl, hbt, hN, hle.eq_of_not_lt fun hlt => hnever ?_⟩
        obtain ⟨m, hd, hout⟩ := ih _ hlt hl hbt rfl
        exact ⟨m, hd, hout.trans hN⟩
    refine StalledFrom.not_fair (n := n) (fun k hk => ?_) hf hh
    obtain ⟨hsk, hbk, hNk, hremk⟩ := hkeeps k hk
    obtain ⟨hd, hout⟩ | ⟨hl, hbt, he⟩ := hr.completes_or_goes_on hh hsk hbk
    · exact absurd ⟨k + 1, hd, hout.trans hNk⟩ hnever
    obtain ⟨-, -, -, hremt⟩ := hkeeps (k + 1) (hk.trans (Nat.le_succ k))
    refine ⟨hsk, hbk, he, fun hp => ?_⟩
    have hless := he.remaining_lt (hsk.job hbk) (hl.job hbt) hp
    exact absurd (hremt.trans hremk.symm) (Nat.ne_of_lt hless)

end

/-- Settles O60: the load by induction on the schedule, completion by induction on what remains of the job. -/
theorem weakFairnessBringsProgress : Obligations.WeakFairnessBringsProgress :=
  ⟨fun s hs hen hrst => exists_run_loads s.sched rfl hs hen hrst,
    fun _ _ hr hf hh hs hb => fairRun_completes hr hf hh hs hb⟩

end Sys2Proof.Machine
end
